-- ==== Sys2Proof/Word.lean ====
section
/-! DEFINITION. The word types of the KB748: a byte of a line, a 32-bit profile item or count. -/

namespace Sys2Proof

/-- One byte of a lane, of the timing serial line or of a consumer port (R184, R186, R188). -/
abbrev Byte := BitVec 8

/-- A 32-bit value: a profile item (R114), a magnitude or analog value (R33), a count (R38, R157). -/
abbrev Word := BitVec 32

end Sys2Proof
end

