-- ==== Sys2Proof/Syntax.lean ====
section
/-! DEFINITION. The commands of the KB748: one constructor of `Instr` for each row of spec/opcode_table.json, with the
operands its rule gives it. The request rows carry the port they come from, their tag and the argument bytes as the
consumer frame carries them (R188), so that a value that names nothing can be sent and answered INVALID. -/

namespace Sys2Proof

/-- A consumer port, CP0 to CP2. -/
abbrev PortId := Fin 3

/-- An ingress lane, L0 to L3. -/
abbrev LaneId := Fin 4

/-- A stream index, 0..47. -/
abbrev StreamId := Fin 48

/-- What a serial receiver sees on its line: a good character, a character whose stop bit is wrong, or a silence
between two characters that is longer than the line allows (10 µs on a lane, R185; 5 ms on the timing serial line,
R187; 1 ms on a consumer port, R147).  A silence between two commands is judged by elapsed time; the characters of one
command fall at one elapsed time, and there `longGap` says it (notes/assumptions/13.md). -/
inductive LineEvent where
  | byte (b : Byte)
  | badStop
  | longGap
  deriving DecidableEq, Repr

/-- An epoch key, the pair (second, index) (Conventions, "Epochs and epoch keys"). -/
structure EpochKey where
  second : Nat
  index : Nat
  deriving DecidableEq, Repr

/-- The commands, in the order of the table. -/
inductive Instr where
  /-- Both supplies come within their limits (R191). -/
  | powerOn
  /-- RESET_N is driven low (R191). -/
  | resetLine
  /-- RESET_N rises (R191). -/
  | resetLineRelease
  /-- Characters, or with an empty line a gap of elapsed time, reach the timing serial line; a message they complete is
  taken (R6, R187). -/
  | timeMessage (line : List LineEvent)
  /-- A rising edge of PPS (R7). -/
  | ppsEdge
  /-- The PPS loss timer expires (R5). -/
  | ppsLossTimerExpiry
  /-- The holdover limit expires (R5). -/
  | holdoverLimitExpiry
  /-- The slew in progress has run for 1 s (R10). -/
  | slewEnd
  /-- The pause in progress runs out (R12). -/
  | pauseEnd
  /-- The second-boundary event of the second local time is in (R17). -/
  | secondBoundary
  /-- The epoch-boundary event of the epoch local time is in (R18). -/
  | epochBoundary
  /-- The fast deadline of the slot for an epoch expires (R78). -/
  | fastDeadlineExpiry (e : EpochKey)
  /-- The full deadline of the slot for an epoch expires (R78). -/
  | fullDeadlineExpiry (e : EpochKey)
  /-- The table's report that the draining generation has no non-CLOSED slot reaches the store (R132). -/
  | drainingEnd
  /-- Characters, or with an empty line a gap of elapsed time, reach a lane; a frame they complete or break off arrives
  (R24, R185). -/
  | laneFrameArrival (l : LaneId) (line : List LineEvent)
  /-- A lane's silence timer expires (R26). -/
  | laneSilenceTimerExpiry (l : LaneId)
  /-- The transmission of the first command frame of a lane's outbound queue ends (R29). -/
  | commandFrameSent (l : LaneId)
  /-- The intake arbiter takes an item (R30). -/
  | arbiterTake
  /-- The table takes the record that the placement unit has handed on (R71). -/
  | tableTakeRecord
  /-- The timeout of a stream's PENDING command expires (R142). -/
  | commandTimeout (i : StreamId)
  /-- A stream's silence timer expires (R93). -/
  | streamSilenceTimerExpiry (i : StreamId)
  /-- A stream's quiet timer expires (R95). -/
  | quietTimerExpiry (i : StreamId)
  /-- The claim timer expires (R123). -/
  | claimTimerExpiry
  /-- Characters, or with an empty line a gap of elapsed time, reach a consumer port; a frame they complete or break off
  arrives (R147). -/
  | requestFrameArrival (p : PortId) (line : List LineEvent)
  /-- The transmission of the first response of a port's outbound queue ends (R150). -/
  | responseSent (p : PortId)
  /-- STATUS (R152). -/
  | status (p : PortId) (tag : Byte)
  /-- READ CONDITIONS (R176). -/
  | readConditions (p : PortId) (tag : Byte)
  /-- SET MASK (R153): the count byte and the 15 kind bytes. -/
  | setMask (p : PortId) (tag : Byte) (count : Byte) (kinds : List Byte)
  /-- SUBSCRIBE (R160): kinds, start mode, filter count and the 48 index bytes. -/
  | subscribe (p : PortId) (tag : Byte) (kinds start count : Byte) (indices : List Byte)
  /-- READ SNAPSHOT with target NEXT (R164): the kind byte; the six sequence bytes, which NEXT does not use. -/
  | readSnapshotNext (p : PortId) (tag : Byte) (kind : Byte) (unused : BitVec 48)
  /-- READ SNAPSHOT with a target byte other than NEXT (R163, R165): the kind, the target and the sequence number. -/
  | readSnapshotSequence (p : PortId) (tag : Byte) (kind target : Byte) (seq : BitVec 48)
  /-- READ ROSTER STATE (R154). -/
  | readRosterState (p : PortId) (tag : Byte)
  /-- READ STREAM DETAIL (R110). -/
  | readStreamDetail (p : PortId) (tag : Byte) (index : Byte)
  /-- READ WORST LATENCY (R111). -/
  | readWorstLatency (p : PortId) (tag : Byte)
  /-- READ LANES (R37). -/
  | readLanes (p : PortId) (tag : Byte)
  /-- PROFILE CURSOR (R118): selector, address and advance mode. -/
  | profileCursor (p : PortId) (tag : Byte) (selector : Byte) (address : BitVec 16) (mode : Byte)
  /-- PROFILE GET (R119): the count. -/
  | profileGet (p : PortId) (tag : Byte) (count : Byte)
  /-- PROFILE PUT (R120): the values. -/
  | profilePut (p : PortId) (tag : Byte) (values : List Word)
  /-- BEGIN EDIT (R122). -/
  | beginEdit (p : PortId) (tag : Byte)
  /-- ABANDON EDIT (R124). -/
  | abandonEdit (p : PortId) (tag : Byte)
  /-- COMMIT SWITCH with a mode byte other than NOW (R125, R128): the mode byte and the switch second. -/
  | commitSwitchAtSecond (p : PortId) (tag : Byte) (mode : Byte) (second : Word)
  /-- COMMIT SWITCH in NOW mode (R129): the switch-second bytes, which NOW ignores (R189). -/
  | commitSwitchNow (p : PortId) (tag : Byte) (ignored : Word)
  /-- CANCEL SWITCH (R130). -/
  | cancelSwitch (p : PortId) (tag : Byte)
  /-- STREAM COMMAND (R136): the stream index and the action. -/
  | streamCommand (p : PortId) (tag : Byte) (index action : Byte)
  /-- RELEASE STREAM (R97). -/
  | releaseStream (p : PortId) (tag : Byte) (index : Byte)
  /-- ACCEPT REFERENCE (R15). -/
  | acceptReference (p : PortId) (tag : Byte)
  /-- CLEAR ALIGNMENT (R155). -/
  | clearAlignment (p : PortId) (tag : Byte)
  /-- PORT RESET (R156). -/
  | portReset (p : PortId) (tag : Byte)
  /-- A supply falls below its limit (R191). -/
  | supplyBelowLimit
  /-- The supplies have been within their limits for 10 ms (R191). -/
  | powerOnExit
  deriving DecidableEq, Repr

end Sys2Proof
end

