-- ==== Sys2Proof/Decode.lean ====
section
/-! DEFINITION. Table words: no row of spec/opcode_table.json gives bits, so no word spells a command.  The byte codes of
the consumer link (R188) are decoded where the link decodes them, in Machine/Operands.lean. -/

namespace Sys2Proof

/-- The command that a word spells by the table's bits: none, since the table gives no row any bits. -/
def decodeTableWord (_nbits _w : Nat) : Option Instr := none

end Sys2Proof
end

