-- ==== Sys2Proof/Config.lean ====
section
/-! DEFINITION. What the manual leaves open, as constants without a body: nothing can be proved of their values. -/

namespace Sys2Proof

/-- The elapsed time one oscillator period after the greatest 64-bit count.  R1 gives elapsed time 64 bits and states
no successor of its limit.  DESIGN CHOICE: a free value (notes/assumptions/5.md); safe. -/
opaque Config.elapsedAfterLimit : BitVec 64

/-- The announced second of a taken PPS that no message precedes, when the previous taken PPS announced the last
second of the era.  R7 says "plus 1", which the 32-bit second cannot hold.  DESIGN CHOICE: a free value
(notes/assumptions/6.md); safe. -/
opaque Config.announcedAfterEra : BitVec 32

end Sys2Proof
end

