-- ==== Sys2Proof/Machine/State.lean ====
section
/-! DEFINITION. The state of the KB748 as plain data, block by block ("Blocks and how they work together"), its values
after reset, and the reasons a step can stop (there are none but a command without a meaning).

Times: elapsed time and the instants elapsed-time timers expire at are counts of 10 ns units (R1); ns are ns; waits are
ms; latencies are µs.  A quantity the manual counts and compares is a `Nat`; a quantity that wraps or that software
reads as bits is a bit vector. -/

namespace Sys2Proof.Machine

/-- A profile bank, 0 or 1 (R114). -/
abbrev BankId := Fin 2

/-- The 16-bit count of profile activations, modulo 65536 (R114, R129). -/
abbrev Generation := BitVec 16

/-! ### Receivers -/

/-- The receiver of a serial line: hunting for its start byte, or gathering the bytes that follow it, with the elapsed
time of the last byte of the frame, from which a gap is judged (R147, R185, R187). -/
inductive Rx where
  | hunting
  | receiving (got : List Byte) (last : Nat)
  deriving DecidableEq, Repr

/-! ### The timebase (chapter 2) -/

/-- Local time, the pair (second, ns) (R2). -/
structure LocalTime where
  second : Nat
  ns : Nat
  deriving DecidableEq, Repr

/-- The five states of the timebase (section 2.2). -/
inductive TimeState where
  | unset | locked | holdover | drifting | rejected
  deriving DecidableEq, Repr

/-- The correction of local time in progress: none, a slew of `e` ns begun at the elapsed time `start` (R10), or a
pause that runs out at the elapsed time `ends` (R12). -/
inductive Correction where
  | none
  | slew (e : Int) (start : Nat)
  | pause (ends : Nat)
  deriving DecidableEq, Repr

/-- Acceptance of the reference (R15). -/
inductive Acceptance where
  | none | armed | held
  deriving DecidableEq, Repr

/-- The two fields of a time message (R6). -/
structure TimeMessage where
  marked : Nat
  valid : Bool
  deriving DecidableEq, Repr

/-- The timebase.  `latest` is also the note of R6 that a message has been received since reset.  `lastSecondEvent` is
the model's own: the second of the last second-boundary event, which tells whether the event for the present second has
been raised (R17). -/
structure Timebase where
  elapsed : Nat
  state : TimeState
  localTime : Option LocalTime
  correction : Correction
  acceptance : Acceptance
  rejectedError : Option Int
  lossTimer : Option Nat
  holdoverTimer : Option Nat
  latest : Option TimeMessage
  messageSincePps : Bool
  prevSecond : Option Nat
  rx : Rx
  lastSecondEvent : Option Nat
  deriving DecidableEq, Repr

/-! ### Lanes and records (chapter 3) -/

/-- A phasor: magnitude and angle (R33). -/
structure Phasor where
  magnitude : Word
  angle : BitVec 16
  deriving DecidableEq, Repr

/-- The measurement fields of a record (R33).  `freqDev` (Δf) and `rocof` are two's complement. -/
structure Record where
  station : BitVec 16
  second : Word
  fraction : Word
  quality : BitVec 4
  status : BitVec 16
  freqDev : BitVec 16
  rocof : BitVec 16
  phasors : List Phasor
  analogs : List Word
  deriving DecidableEq, Repr

/-- The result of an acknowledgment (R35). -/
inductive AckResult where
  | done | refused
  deriving DecidableEq, Repr

/-- An acknowledgment (R35). -/
structure Ack where
  station : BitVec 16
  tag : Byte
  result : AckResult
  deriving DecidableEq, Repr

/-- What a valid lane frame carries (R24). -/
inductive LaneContent where
  | measurement (r : Record)
  | acknowledgment (a : Ack)
  deriving DecidableEq, Repr

/-- A queue item: a valid frame and its three stamps (R27). -/
structure QueueItem where
  content : LaneContent
  lane : LaneId
  arrivalLocal : Option LocalTime
  arrivalElapsed : Nat
  deriving DecidableEq, Repr

/-- The actions of a stream command (R36). -/
inductive Action where
  | halt | resume | echo
  deriving DecidableEq, Repr

/-- A command frame (R36). -/
structure CommandFrame where
  station : Nat
  tag : Byte
  action : Action
  deriving DecidableEq, Repr

/-- A lane: its receiver, its state and its outbound side (R26 to R29, R38).  `up` is the lane state.  `lastSent` is the
model's own: the bytes of the last frame whose transmission ended, as the line carried them. -/
structure Lane where
  rx : Rx
  up : Bool
  silenceTimer : Option Nat
  lastValid : Option Nat
  queue : List QueueItem
  deepest : Nat
  validCount : Word
  discardCount : Word
  overflowCount : Word
  outbound : List CommandFrame
  sentCount : Word
  dropCount : Word
  lastSent : Option (List Byte)
  deriving DecidableEq, Repr

/-- A placed record, as the placement unit hands it to the table (R58): `record` has its angles corrected. -/
structure PlacedRecord where
  key : EpochKey
  bank : BankId
  stream : StreamId
  supervised : Bool
  record : Record
  deltaNs : Int
  correction : Int
  lane : LaneId
  latency : Nat
  arrivalElapsed : Nat
  doubtful : Bool
  corrected : Bool
  uncorrected : Bool
  deriving DecidableEq, Repr

/-- The intake arbiter (R30): its round-robin position and, while it is handling a record that waits for the table's
outcome, that record.  Every other item is dealt with in the step that takes it. -/
structure Arbiter where
  position : LaneId
  handling : Option PlacedRecord
  deriving DecidableEq, Repr

/-! ### The alignment table (chapter 5) -/

/-- The cause of readiness and of a cut (R76, R77). -/
inductive Cause where
  | deadline | gating | complete
  deriving DecidableEq, Repr

/-- A cut: its cause and its sequence number (R61). -/
structure Cut where
  cause : Cause
  seq : Nat
  deriving DecidableEq, Repr

/-- The conflict mark of an entry (R62). -/
inductive ConflictMark where
  | none | beforeFastCut | afterFastCut
  deriving DecidableEq, Repr

/-- An entry of a slot (R62). -/
structure Entry where
  record : Record
  deltaNs : Int
  correction : Int
  lane : LaneId
  latency : Nat
  doubtful : Bool
  corrected : Bool
  uncorrected : Bool
  late : Bool
  mark : ConflictMark
  deriving DecidableEq, Repr

/-- An exact instant of local time: `scaled / rate` ns after second 0 (R70 keeps deadlines exact). -/
structure Instant where
  scaled : Nat
  rate : Nat
  deriving DecidableEq, Repr

/-- A slot that is not FREE (R61).  Its state is read from its cuts (`Slot.state`). -/
structure Slot where
  number : Fin 512
  key : EpochKey
  bank : BankId
  generation : Generation
  enabled : List StreamId
  expected : List StreamId
  gating : List StreamId
  entries : Vector (Option Entry) 48
  fastDeadline : Instant
  fullDeadline : Instant
  fastReady : Option Cause
  fullReady : Option Cause
  fastCut : Option Cut
  fullCut : Option Cut
  discontinuity : Bool
  timeClass : Fin 4
  deriving DecidableEq, Repr

/-- The alignment table: the slots that are not FREE, oldest epoch first; the next sequence numbers (R83); the opening
state of R63.  The three maps of R60 and the counts of R84 are read from the slots. -/
structure AlignTable where
  slots : List Slot
  nextFast : Nat
  nextFull : Nat
  horizon : Option EpochKey
  mark : Bool
  lastGeneration : Option Generation
  deriving DecidableEq, Repr

/-! ### The stream supervisor (chapter 6) -/

/-- The health of a stream, in the order of R190's codes (R89). -/
inductive Health where
  | unconfigured | awaiting | live | lagging | silent | quarantined | halted
  deriving DecidableEq, Repr

/-- The kinds of fault, in the order of R190's codes (R46, R89). -/
inductive FaultKind where
  | offGrid | ahead | conflict | shape | timeInvalid
  deriving DecidableEq, Repr

/-- The latency tracker: last, S and P, in µs (R102). -/
structure Tracker where
  last : Nat
  smoothed : Nat
  peak : Nat
  deriving DecidableEq, Repr

/-- A stream record (R89). -/
structure StreamRecord where
  health : Health
  faultCount : Nat
  quietTimer : Option Nat
  lastFault : Option FaultKind
  missStreak : Nat
  onTimeStreak : Nat
  silenceTimer : Option Nat
  lastAccepted : Option Nat
  lastLane : Option LaneId
  tracker : Option Tracker
  deriving DecidableEq, Repr

/-- The fast wait in force, in ms, and the bank it was set for (R106). -/
structure FastWait where
  ms : Nat
  bank : Option BankId
  deriving DecidableEq, Repr

/-- The stream supervisor (R89, R106, R107). -/
structure Supervisor where
  streams : Vector StreamRecord 48
  worst : List StreamId
  worstSecond : Option Nat
  fastWait : FastWait
  deriving DecidableEq, Repr

/-! ### The profile store (chapter 7) -/

/-- A bank: 12 global items and 48 groups of 7 stream items (R114). -/
structure Bank where
  globals : Vector Word 12
  streams : Vector (Vector Word 7) 48
  deriving DecidableEq, Repr

/-- The edit claim: its holder and the elapsed time its timer expires at (R122). -/
structure Claim where
  holder : PortId
  expires : Nat
  deriving DecidableEq, Repr

/-- Draining: the draining generation and the switch second (R132).  The draining bank is the standby bank. -/
structure Draining where
  generation : Generation
  second : Nat
  deriving DecidableEq, Repr

/-- The profile store (R114).  `pendingSwitch` is the switch second of the pending switch, whose bank is the standby
bank (R128). -/
structure ProfileStore where
  banks : Vector Bank 2
  active : Option BankId
  standby : BankId
  generation : Generation
  lastSwitch : Option Nat
  claim : Option Claim
  pendingSwitch : Option Nat
  draining : Option Draining
  deriving DecidableEq, Repr

/-! ### The command relay (chapter 8) -/

/-- A PENDING command slot (R135). -/
structure CommandSlot where
  action : Action
  port : PortId
  station : Nat
  tag : Byte
  lane : LaneId
  issued : Nat
  timeout : Nat
  deriving DecidableEq, Repr

/-- The command relay: per stream a command slot (`none` is EMPTY) and a tag counter (R135). -/
structure Relay where
  slots : Vector (Option CommandSlot) 48
  tags : Vector Byte 48
  deriving DecidableEq, Repr

/-- The outcomes of a command (R143). -/
inductive CommandResult where
  | done | refused | timedOut
  deriving DecidableEq, Repr

/-- A last command outcome (R143). -/
structure CommandOutcome where
  stream : StreamId
  station : Nat
  action : Action
  tag : Byte
  result : CommandResult
  applied : Bool
  roundTrip : Option Nat
  deriving DecidableEq, Repr

/-! ### Conditions (chapter 11) -/

/-- The fifteen condition kinds, in the order of R174, which is the order of their codes (R188).  The last two are
live kinds. -/
inductive Kind where
  | streamFault | streamQuarantined | conflict | unknownSource | laneEvent | linkError | referenceChange
  | discontinuity | cursorOverrun | profileSwitched | claimLost | commandDone | tableCleared
  | snapshotWaiting | rosterChanged
  deriving DecidableEq, Repr

/-- A set of condition kinds: the bit of weight 2^k stands for the kind of code k, as on the link (R190). -/
abbrev KindSet := BitVec 15

/-! ### Responses (chapters 9 to 12) -/

/-- The response codes, in the order of R188's codes. -/
inductive Code where
  | ok | busy | malformed | invalid | state | held | notHolder | refused | noRoute | expired | notYet
  deriving DecidableEq, Repr

/-- The read selector of a profile cursor (R118). -/
inductive Selector where
  | active | standby
  deriving DecidableEq, Repr

/-- The advance mode of a profile cursor (R118). -/
inductive Advance where
  | none | afterEach | afterPut
  deriving DecidableEq, Repr

/-- A profile cursor (R118). -/
structure ProfileCursor where
  selector : Selector
  address : Nat
  mode : Advance
  deriving DecidableEq, Repr

/-- A kind of snapshot (R159). -/
inductive SnapKind where
  | fast | full
  deriving DecidableEq, Repr

/-- The form of a snapshot item (R169).  An ENTRY carries the entry and its flags LATE and CONFLICTED as the view shows
them (R167). -/
inductive ItemForm where
  | entry (expected gating late conflicted : Bool) (e : Entry)
  | missing (gating : Bool)
  | notExpected
  deriving DecidableEq, Repr

/-- A snapshot item (R169). -/
structure SnapItem where
  stream : StreamId
  form : ItemForm
  deriving DecidableEq, Repr

/-- A delivered snapshot: the header of R168 and the items of R169. -/
structure Snapshot where
  kind : SnapKind
  seq : Nat
  key : EpochKey
  bank : BankId
  generation : Generation
  cause : Cause
  timeClass : Fin 4
  discontinuity : Bool
  expectedCount : Nat
  presentCount : Nat
  skipped : Nat
  items : List SnapItem
  deriving DecidableEq, Repr

/-- The device state (R19). -/
inductive DeviceState where
  | unprovisioned | waitingTime | aligning
  deriving DecidableEq, Repr

/-- The correction in progress as STATUS reports it: the part of a slew not yet applied, or the time left of a pause
(R22). -/
inductive CorrectionReport where
  | none
  | slew (left : Int)
  | pause (left : Nat)
  deriving DecidableEq, Repr

/-- The items of STATUS, in the order of R152. -/
structure StatusReport where
  port : PortId
  taken : Word
  busy : Word
  discards : Word
  skipped : Word
  timeState : TimeState
  localTime : Option LocalTime
  timeClass : Option (Fin 4)
  elapsed : Nat
  correction : CorrectionReport
  acceptance : Acceptance
  rejectedError : Option Int
  device : DeviceState
  freeSlots : Nat
  openSlots : Nat
  fastCutSlots : Nat
  closedSlots : Nat
  nextFast : Nat
  nextFull : Nat
  oldestFast : Option Nat
  oldestFull : Option Nat
  newestKey : Option EpochKey
  horizon : Option EpochKey
  healthCounts : List Nat
  fastWait : FastWait
  active : Option BankId
  standby : BankId
  generation : Generation
  activeLabel : Option Word
  standbyLabel : Word
  activeRate : Option Word
  claim : Option (PortId × Nat)
  pendingSwitch : Option (Nat × BankId)
  draining : Option Draining
  lastSwitch : Option Nat
  pendingCommands : Nat
  outcome : Option CommandOutcome
  deriving DecidableEq, Repr

/-- The items of READ STREAM DETAIL: R110, then R145. -/
structure StreamDetail where
  stream : StreamId
  station : Option Nat
  health : Health
  faultCount : Nat
  quietLeft : Option Nat
  lastFault : Option FaultKind
  missStreak : Nat
  onTimeStreak : Nat
  silenceLeft : Option Nat
  lastAccepted : Option Nat
  lastLane : Option LaneId
  tracker : Option Tracker
  slot : Option CommandSlot
  timeoutLeft : Nat
  nextTag : Byte
  deriving DecidableEq, Repr

/-- A lane report of READ LANES (R37). -/
structure LaneReport where
  up : Bool
  lastValid : Option Nat
  depth : Nat
  deepest : Nat
  validCount : Word
  discardCount : Word
  overflowCount : Word
  outboundDepth : Nat
  sentCount : Word
  dropCount : Word
  deriving DecidableEq, Repr

/-- What a response carries besides its code (R151). -/
inductive Result where
  /-- An empty payload. -/
  | empty
  /-- REFUSED: the address of the first failing item (R126). -/
  | failing (address : Nat)
  /-- EXPIRED: the oldest available sequence number (R165). -/
  | oldest (seq : Nat)
  /-- READ CONDITIONS: the latched kinds, the live kinds and the mask (R176). -/
  | conditions (latched live mask : KindSet)
  /-- SET MASK: the mask (R153). -/
  | mask (m : KindSet)
  /-- SUBSCRIBE: the subscription, the filter and the cursors (R160). -/
  | reading (subFast subFull : Bool) (filter : List StreamId) (fastCursor fullCursor : Nat)
  /-- READ SNAPSHOT: the snapshot (R168). -/
  | snapshot (s : Snapshot)
  /-- READ ROSTER STATE: the generation, and per stream its health and station code (R154). -/
  | roster (generation : Option Generation) (streams : List (Health × Option Nat))
  /-- READ STREAM DETAIL (R110, R145). -/
  | detail (d : StreamDetail)
  /-- READ WORST LATENCY: the items, the second of the list and the fast wait in force (R111). -/
  | worst (items : List (StreamId × Health × Tracker)) (second : Option Nat) (wait : FastWait)
  /-- READ LANES: the lane reports and the arbiter's position (R37). -/
  | lanes (reports : List LaneReport) (position : LaneId)
  /-- PROFILE CURSOR and PROFILE PUT: the cursor (R118, R120). -/
  | cursor (c : ProfileCursor)
  /-- PROFILE GET: the values and the cursor (R119). -/
  | items (values : List Word) (c : ProfileCursor)
  /-- STREAM COMMAND: the tag and the lane (R137). -/
  | command (tag : Byte) (lane : LaneId)
  /-- CLEAR ALIGNMENT: the next fast and next full sequence numbers (R155). -/
  | numbers (nextFast nextFull : Nat)
  /-- STATUS (R152). -/
  | status (r : StatusReport)
  deriving DecidableEq, Repr

/-- What an owner answers to a request: a response code and its contents (R151). -/
structure Reply where
  code : Code
  result : Result
  deriving DecidableEq, Repr

/-- A response frame of a port's outbound queue (R150, R151).  `ofRequest` is true for the response of the executing
request and false for a BUSY answer. -/
structure OutFrame where
  tag : Byte
  reply : Reply
  ofRequest : Bool
  deriving DecidableEq, Repr

/-! ### Consumer ports (chapters 9 to 11) -/

/-- The request handler of a port (R149): IDLE; EXECUTING with the request in hand, not yet taken by its owner; or
EXECUTING with its response composed and not yet sent. -/
inductive Handler where
  | idle
  | inHand (c : Instr)
  | responding
  deriving DecidableEq, Repr

/-- A consumer port (R147 to R158, R159, R174).  `lastSent` is the model's own: the bytes of the last response whose
transmission ended, as the line carried them. -/
structure Port where
  rx : Rx
  handler : Handler
  outbound : List OutFrame
  takenCount : Word
  busyCount : Word
  discardCount : Word
  skippedCount : Word
  subFast : Bool
  subFull : Bool
  fastCursor : Nat
  fullCursor : Nat
  filter : List StreamId
  mask : KindSet
  latched : KindSet
  watch : Vector Health 48
  outcome : Option CommandOutcome
  cursor : ProfileCursor
  lastSent : Option (List Byte)
  deriving DecidableEq, Repr

/-! ### The part -/

/-- The supplies as power-on sees them (R191): below a limit; within their limits while power-on still acts; within
their limits with power-on left. -/
inductive Supplies where
  | below | rising | good
  deriving DecidableEq, Repr

/-- The state of the part: its blocks, the two reset inputs, and the commands that wait, first in first out. -/
structure State where
  timebase : Timebase
  lanes : Vector Lane 4
  arbiter : Arbiter
  table : AlignTable
  supervisor : Supervisor
  store : ProfileStore
  relay : Relay
  ports : Vector Port 3
  supplies : Supplies
  resetLow : Bool
  pending : List Instr
  deriving DecidableEq, Repr

/-- Why the machine would stop with a fault.  No rule of the manual stops the part, so there is no fault: nobody raises
one. -/
inductive Fault : Type
  deriving DecidableEq, Repr

/-- Why the machine refuses a command. -/
inductive Refusal where
  /-- A command without a meaning, by its mnemonic: raised by `exec` alone; safe.  No arm of `exec` raises it. -/
  | notModelled (mnemonic : String)
  deriving DecidableEq, Repr

/-! ### Values after reset -/

/-- The timebase after power-on and the reset line (R23). -/
def Timebase.reset : Timebase where
  elapsed := 0
  state := .unset
  localTime := none
  correction := .none
  acceptance := .none
  rejectedError := none
  lossTimer := none
  holdoverTimer := none
  latest := none
  messageSincePps := false
  prevSecond := none
  rx := .hunting
  lastSecondEvent := none

/-- A lane after power-on and the reset line (R39). -/
def Lane.reset : Lane where
  rx := .hunting
  up := false
  silenceTimer := none
  lastValid := none
  queue := []
  deepest := 0
  validCount := 0
  discardCount := 0
  overflowCount := 0
  outbound := []
  sentCount := 0
  dropCount := 0
  lastSent := none

/-- The arbiter after power-on and the reset line: idle, position L0 (R39). -/
def Arbiter.reset : Arbiter where
  position := 0
  handling := none

/-- The table after power-on and the reset line (R88). -/
def AlignTable.reset : AlignTable where
  slots := []
  nextFast := 1
  nextFull := 1
  horizon := none
  mark := false
  lastGeneration := none

/-- The record of an UNCONFIGURED stream (R91, R108, R113). -/
def StreamRecord.unconfigured : StreamRecord where
  health := .unconfigured
  faultCount := 0
  quietTimer := none
  lastFault := none
  missStreak := 0
  onTimeStreak := 0
  silenceTimer := none
  lastAccepted := none
  lastLane := none
  tracker := none

/-- The supervisor after power-on (R113). -/
def Supervisor.reset : Supervisor where
  streams := Vector.ofFn fun _ => StreamRecord.unconfigured
  worst := []
  worstSecond := none
  fastWait := { ms := 0, bank := none }

/-- A bank of zeros (R134). -/
def Bank.zero : Bank where
  globals := Vector.ofFn fun _ => 0
  streams := Vector.ofFn fun _ => Vector.ofFn fun _ => 0

/-- The profile store after power-on (R134). -/
def ProfileStore.reset : ProfileStore where
  banks := Vector.ofFn fun _ => Bank.zero
  active := none
  standby := 0
  generation := 0
  lastSwitch := none
  claim := none
  pendingSwitch := none
  draining := none

/-- The command relay after power-on and the reset line (R146). -/
def Relay.reset : Relay where
  slots := Vector.ofFn fun _ => none
  tags := Vector.ofFn fun _ => 0

/-- The profile cursor after every reset that reaches it (R134). -/
def ProfileCursor.reset : ProfileCursor where
  selector := .active
  address := 0
  mode := .none

/-- A consumer port after power-on and the reset line (R158). -/
def Port.reset : Port where
  rx := .hunting
  handler := .idle
  outbound := []
  takenCount := 0
  busyCount := 0
  discardCount := 0
  skippedCount := 0
  subFast := false
  subFull := false
  fastCursor := 1
  fullCursor := 1
  filter := []
  mask := 0
  latched := 0
  watch := Vector.ofFn fun _ => Health.unconfigured
  outcome := none
  cursor := ProfileCursor.reset
  lastSent := none

/-- The part right after power-on has been left: every block at its power-on values, the supplies good, RESET_N high
and nothing waiting (R191). -/
def State.reset : State where
  timebase := Timebase.reset
  lanes := Vector.ofFn fun _ => Lane.reset
  arbiter := Arbiter.reset
  table := AlignTable.reset
  supervisor := Supervisor.reset
  store := ProfileStore.reset
  relay := Relay.reset
  ports := Vector.ofFn fun _ => Port.reset
  supplies := .good
  resetLow := false
  pending := []

end Sys2Proof.Machine
end

