-- ==== Sys2Proof/Machine/Fixed.lean ====
section
/-! DEFINITION. The fixed numbers of the part (section 12.7).  Elapsed times are in 10 ns units (R1). -/

namespace Sys2Proof.Machine

/-- 1 s in ns. -/
def nsPerSecond : Nat := 1000000000

/-- 1 s of elapsed time. -/
def elapsedSecond : Nat := 100000000

/-- One more than the greatest elapsed time, a 64-bit count (R1). -/
def elapsedLimit : Nat := 2 ^ 64

/-- The last second of the era (R2). -/
def lastSecond : Nat := 4294967295

/-- The PPS loss timer, 2 s (R5). -/
def ppsLossTime : Nat := 2 * elapsedSecond

/-- The holdover limit, 900 s (R5). -/
def holdoverTime : Nat := 900 * elapsedSecond

/-- The length of a slew, 1 s (R10). -/
def slewTime : Nat := elapsedSecond

/-- The greatest error a slew corrects, 200 µs in ns (R9). -/
def slewLimit : Int := 200000

/-- The greatest error that is corrected without acceptance, 2 s in ns (R9). -/
def correctionLimit : Int := 2000000000

/-- Lane silence, 500 ms (R26). -/
def laneSilenceTime : Nat := elapsedSecond / 2

/-- The longest gap between two bytes of a lane frame, 10 µs (R185). -/
def laneGapTime : Nat := 1000

/-- The longest gap between two bytes of a time message, 5 ms (R187). -/
def timeGapTime : Nat := elapsedSecond / 200

/-- The longest gap between two bytes of a request frame, 1 ms (R147). -/
def requestGapTime : Nat := elapsedSecond / 1000

/-- The length of a lane queue (R27). -/
def laneQueueLimit : Nat := 32

/-- The length of a lane's outbound queue (R29). -/
def laneOutboundLimit : Nat := 16

/-- The greatest declared payload length of a lane frame (R184). -/
def lanePayloadLimit : Nat := 106

/-- The greatest latency, in µs (R57). -/
def latencyLimit : Nat := 16777215

/-- The fault limit (R94). -/
def faultLimit : Nat := 4

/-- The quiet window, 60 s (R94). -/
def quietTime : Nat := 60 * elapsedSecond

/-- The lagging streaks (R101). -/
def streakLimit : Nat := 8

/-- The length of the worst-latency list (R107). -/
def worstLimit : Nat := 4

/-- The edit claim, 10 s (R123). -/
def claimTime : Nat := 10 * elapsedSecond

/-- The capacity bound at commit (R126). -/
def capacityBound : Nat := 448

/-- The command timeout, 2 s (R142). -/
def commandTime : Nat := 2 * elapsedSecond

/-- The greatest declared payload length of a request frame (R147). -/
def requestPayloadLimit : Nat := 8192

/-- How many BUSY answers may wait in a port's outbound queue (R150). -/
def busyLimit : Nat := 3

/-- The longest profile run (R119, R120). -/
def profileRunLimit : Nat := 64

/-- The stream indices, 0..47. -/
def allStreams : List StreamId := List.finRange 48

/-- The slot numbers, 0..511 (R60). -/
def allSlots : List (Fin 512) := List.finRange 512

/-- The ports, CP0 to CP2. -/
def allPorts : List PortId := List.finRange 3

/-- The lanes, L0 to L3. -/
def allLanes : List LaneId := List.finRange 4

end Sys2Proof.Machine
end

