-- ==== Sys2Proof/Machine/Bytes.lean ====
section
/-! DEFINITION. Byte order and check values: every field is sent most significant byte first (chapter 12), and the CRCs
of R185 and R187 are computed most significant bit first with no reflection. -/

namespace Sys2Proof.Machine

/-- The `n` bytes of a value, most significant first (chapter 12). -/
def bytesOf : Nat → Nat → List Byte
  | 0, _ => []
  | n + 1, v => BitVec.ofNat 8 (v / 256 ^ n) :: bytesOf n v

/-- The `n` bytes of a signed value in two's complement, most significant first (chapter 12). -/
def signedBytesOf (n : Nat) (v : Int) : List Byte := bytesOf n (v % (256 : Int) ^ n).toNat

/-- The value of a run of bytes, most significant first. -/
def valueOf (bs : List Byte) : Nat := bs.foldl (fun acc b => acc * 256 + b.toNat) 0

/-- The field of `n` bytes at an offset. -/
def field (bs : List Byte) (offset n : Nat) : Nat := valueOf ((bs.drop offset).take n)

/-- One bit of a CRC: shift out the most significant bit, and subtract the polynomial when it was 1. -/
def crcBit {w : Nat} (poly r : BitVec w) : BitVec w := if r.msb then (r <<< 1) ^^^ poly else r <<< 1

/-- `k` bits of a CRC. -/
def crcBits {w : Nat} (poly : BitVec w) : Nat → BitVec w → BitVec w
  | 0, r => r
  | k + 1, r => crcBits poly k (crcBit poly r)

/-- One byte of a CRC, taken into the top of the register. -/
def crcByte {w : Nat} (poly r : BitVec w) (b : Byte) : BitVec w :=
  crcBits poly 8 (r ^^^ (b.setWidth w <<< (w - 8)))

/-- The CRC-32 of lane frames: polynomial 0x04C11DB7, initial value 0xFFFFFFFF, result complemented (R185). -/
def crc32 (bs : List Byte) : BitVec 32 := ~~~ bs.foldl (crcByte 0x04C11DB7#32) 0xFFFFFFFF#32

/-- The CRC-16 of time messages and consumer frames: polynomial 0x1021, initial value 0xFFFF, no final complement
(R187, R188). -/
def crc16 (bs : List Byte) : BitVec 16 := bs.foldl (crcByte 0x1021#16) 0xFFFF#16

end Sys2Proof.Machine
end

