-- ==== Sys2Proof/Machine/Banks.lean ====
section
/-! DEFINITION. The items of a profile bank by name (R116, R117) and by address, the governing bank of a second (R115),
and validation (R126, R127). -/

namespace Sys2Proof.Machine

/-- A global item, as a number (R116). -/
def Bank.global (b : Bank) (k : Fin 12) : Nat := b.globals[k].toNat

/-- Release rate R, in epochs per second (R116, address 0). -/
def Bank.rate (b : Bank) : Nat := b.global 0

/-- Nominal frequency (R116, address 1). -/
def Bank.nominal (b : Bank) : Nat := b.global 1

/-- Fixed fast wait, ms (R116, address 2). -/
def Bank.fixedWait (b : Bank) : Nat := b.global 2

/-- Full wait, ms (R116, address 3). -/
def Bank.fullWait (b : Bank) : Nat := b.global 3

/-- Whether adaptive is on (R116, address 4). -/
def Bank.adaptive (b : Bank) : Bool := b.global 4 == 1

/-- fast_min, ms (R116, address 5). -/
def Bank.fastMin (b : Bank) : Nat := b.global 5

/-- fast_max, ms (R116, address 6). -/
def Bank.fastMax (b : Bank) : Nat := b.global 6

/-- Margin, ms (R116, address 7). -/
def Bank.margin (b : Bank) : Nat := b.global 7

/-- Tolerance τ, µs (R116, address 8). -/
def Bank.tolerance (b : Bank) : Nat := b.global 8

/-- Silence limit, s (R116, address 9). -/
def Bank.silenceLimit (b : Bank) : Nat := b.global 9

/-- Time-quality threshold (R116, address 10). -/
def Bank.threshold (b : Bank) : Nat := b.global 10

/-- Label, as stored (R116, address 11; R133). -/
def Bank.label (b : Bank) : Word := b.globals[(11 : Fin 12)]

/-- An item of a stream group, as a number (R117). -/
def Bank.item (b : Bank) (i : StreamId) (k : Fin 7) : Nat := b.streams[i][k].toNat

/-- Whether the stream is enabled (R117). -/
def Bank.enabled (b : Bank) (i : StreamId) : Bool := b.item i 0 == 1

/-- The station code of the stream (R117). -/
def Bank.station (b : Bank) (i : StreamId) : Nat := b.item i 1

/-- The rate r_s of the stream, records per second (R117). -/
def Bank.streamRate (b : Bank) (i : StreamId) : Nat := b.item i 2

/-- Whether the stream has the gating attribute (R117). -/
def Bank.gating (b : Bank) (i : StreamId) : Bool := b.item i 3 == 1

/-- Whether angle correction is on for the stream (R117). -/
def Bank.angleCorrection (b : Bank) (i : StreamId) : Bool := b.item i 4 == 1

/-- The phasor count of the stream (R117). -/
def Bank.phasorCount (b : Bank) (i : StreamId) : Nat := b.item i 5

/-- The analog count of the stream (R117). -/
def Bank.analogCount (b : Bank) (i : StreamId) : Nat := b.item i 6

/-! ### Addresses -/

/-- Where an address stands in a bank. -/
inductive ItemPlace where
  | global (k : Fin 12)
  | stream (i : StreamId) (k : Fin 7)
  deriving DecidableEq, Repr

/-- The item at an address, or none where the address is undefined (R116). -/
def itemPlace (a : Nat) : Option ItemPlace :=
  if h : a < 12 then some (.global ⟨a, h⟩)
  else if h : 16 ≤ a ∧ (a - 16) / 16 < 48 ∧ (a - 16) % 16 < 7 then
    some (.stream ⟨(a - 16) / 16, h.2.1⟩ ⟨(a - 16) % 16, h.2.2⟩)
  else none

/-- The value of an item (R119). -/
def Bank.read (b : Bank) : ItemPlace → Word
  | .global k => b.globals[k]
  | .stream i k => b.streams[i][k]

/-- The bank with one item replaced (R120). -/
def Bank.write (b : Bank) (v : Word) : ItemPlace → Bank
  | .global k => { b with globals := b.globals.set k.val v k.isLt }
  | .stream i k => { b with streams := b.streams.set i.val (b.streams[i].set k.val v k.isLt) i.isLt }

/-- The values at a run of addresses, or none when one of them is undefined (R119). -/
def Bank.readRun (b : Bank) (a : Nat) : Nat → Option (List Word)
  | 0 => some []
  | n + 1 =>
    match itemPlace a, b.readRun (a + 1) n with
    | some p, some vs => some (b.read p :: vs)
    | _, _ => none

/-- The bank with a run of values stored, or none when one of the addresses is undefined (R120). -/
def Bank.writeRun (b : Bank) (a : Nat) : List Word → Option Bank
  | [] => some b
  | v :: vs =>
    match itemPlace a with
    | some p => (b.write v p).writeRun (a + 1) vs
    | none => none

/-- The address after a run that ended at `e` (R121): an advance off a group's end lands on the next group. -/
def addressAfter (e : Nat) : Nat :=
  if (itemPlace (e + 1)).isSome then e + 1
  else if e + 1 < 16 then 16
  else 16 + 16 * ((e + 1 - 16) / 16 + 1)

/-! ### The governing bank -/

/-- The contents of a bank. -/
def ProfileStore.bank (ps : ProfileStore) (b : BankId) : Bank := ps.banks[b]

/-- The contents of the active bank, absent with it (R114). -/
def ProfileStore.activeBank (ps : ProfileStore) : Option Bank := ps.active.map ps.bank

/-- The governing bank of second `x` and the generation its slots carry (R115, R67). -/
def ProfileStore.governing (ps : ProfileStore) (x : Nat) : Option (BankId × Generation) :=
  match ps.active with
  | none => none
  | some a =>
    match ps.pendingSwitch with
    | some S =>
      if S ≤ x then some (ps.standby, ps.generation + 1) else some (a, ps.generation)
    | none =>
      match ps.draining with
      | some d => if x < d.second then some (ps.standby, d.generation) else some (a, ps.generation)
      | none => some (a, ps.generation)

/-- The contents of the governing bank of second `x` (R115). -/
def ProfileStore.governingBank (ps : ProfileStore) (x : Nat) : Option Bank :=
  (ps.governing x).map fun g => ps.bank g.1

/-- Whether the active bank has the index enabled (R91). -/
def ProfileStore.activeEnabled (ps : ProfileStore) (i : StreamId) : Bool :=
  match ps.activeBank with
  | some b => b.enabled i
  | none => false

/-- The active bank's station code at an enabled index (R110, R135, R140, R154). -/
def ProfileStore.activeStation (ps : ProfileStore) (i : StreamId) : Option Nat :=
  match ps.activeBank with
  | some b => if b.enabled i then some (b.station i) else none
  | none => none

/-- Whether index `i` of bank `b` has a supervised stream: `b` is the active bank, or both banks have the index enabled
with the same station code (R44, R68, R81); the station code of an index that `b` does not enable is not read (R117). -/
def ProfileStore.supervised (ps : ProfileStore) (b : BankId) (i : StreamId) : Bool :=
  ps.active == some b || ((ps.bank b).enabled i && ps.activeStation i == some ((ps.bank b).station i))

/-! ### Validation -/

/-- The first address of a list whose check fails. -/
def firstFailure : List (Nat × Bool) → Option Nat
  | [] => none
  | (a, fails) :: rest => if fails then some a else firstFailure rest

/-- The permitted release rates (R126). -/
def releaseRates : List Nat := [10, 12, 15, 20, 25, 30, 50, 60, 100, 120]

/-- The rates of a nominal frequency (R126). -/
def nominalRates (nominal : Nat) : List Nat :=
  if nominal = 50 then [10, 25, 50, 100]
  else if nominal = 60 then [10, 12, 15, 20, 30, 60, 120]
  else []

/-- ceil(W × R / 1000) + 2, the slots a bank can need (R126). -/
def slotsNeeded (fullWait rate : Nat) : Nat := (fullWait * rate + 999) / 1000 + 2

/-- The checks of the global items, in address order (R126). -/
def globalChecks (b : Bank) : List (Nat × Bool) :=
  [ (0, !releaseRates.contains b.rate),
    (1, !(nominalRates b.nominal).contains b.rate),
    (2, decide (b.fullWait < b.fixedWait)),
    (3, decide (b.fullWait < 20) || decide (3000 < b.fullWait)
          || decide (capacityBound < slotsNeeded b.fullWait b.rate)),
    (4, decide (1 < b.global 4)),
    (5, decide (b.fastMax < b.fastMin)),
    (6, decide (b.fullWait < b.fastMax)),
    (7, decide (500 < b.margin)),
    (8, decide (b.tolerance < 1) || decide (500 < b.tolerance)),
    (9, decide (b.silenceLimit < 1) || decide (60 < b.silenceLimit)),
    (10, decide (14 < b.threshold)),
    (11, decide (65535 < b.label.toNat)) ]

/-- Whether the station code of stream `i` is that of an enabled stream of lower index (R127). -/
def codeTaken (b : Bank) (i : StreamId) : Bool :=
  allStreams.any fun j => decide (j < i) && b.enabled j && b.station j == b.station i

/-- The checks of one stream group, in address order (R127). -/
def streamChecks (b : Bank) (i : StreamId) : List (Nat × Bool) :=
  let at_ := fun k => 16 + 16 * i.val + k
  if b.enabled i then
    [ (at_ 1, decide (b.station i < 1) || decide (65534 < b.station i) || codeTaken b i),
      (at_ 2, !(nominalRates b.nominal).contains (b.streamRate i)
                || (b.rate % b.streamRate i != 0 && b.streamRate i % b.rate != 0)),
      (at_ 3, decide (1 < b.item i 3)),
      (at_ 4, decide (1 < b.item i 4)),
      (at_ 5, decide (b.phasorCount i < 1) || decide (12 < b.phasorCount i)),
      (at_ 6, decide (4 < b.analogCount i)) ]
  else [(at_ 0, decide (1 < b.item i 0))]

/-- The address of the first item that fails validation, or none for a bank that passes (R126, R127): the global items,
the stream groups, and at last the roster-wide check that some group is enabled. -/
def Bank.failing (b : Bank) : Option Nat :=
  firstFailure
    (globalChecks b ++ allStreams.flatMap (streamChecks b) ++ [(16, !allStreams.any b.enabled)])

end Sys2Proof.Machine
end

