-- ==== Sys2Proof/Machine/Time.lean ====
section
/-! DEFINITION. Local time, epochs and instants: the arithmetic of R2, R3, R10, R18 and R53. -/

namespace Sys2Proof.Machine

/-- Local time as a count of ns. -/
def LocalTime.toNs (t : LocalTime) : Nat := t.second * nsPerSecond + t.ns

/-- The last local time, (4,294,967,295, 999,999,990), in ns (R2). -/
def lastLocalNs : Nat := lastSecond * nsPerSecond + 999999990

/-- The local time of a count of ns.  Local time does not advance past its last value (R2). -/
def LocalTime.ofNs (n : Nat) : LocalTime where
  second := min n lastLocalNs / nsPerSecond
  ns := min n lastLocalNs % nsPerSecond

/-- The second (x, 0). -/
def LocalTime.ofSecond (x : Nat) : LocalTime where
  second := x
  ns := 0

/-- The applied part of a slew of `e` ns after `t` units of elapsed time, truncated toward zero to a multiple of 10 ns
(R10). -/
def slewApplied (e : Int) (t : Nat) : Int := 10 * Int.tdiv (e * t) nsPerSecond

/-- How far a correction lets local time advance, in ns, in the oscillator period that ends at the elapsed time
`now`: 10 ns, with a slew's part of the period added (R10), or nothing in a pause (R12). -/
def Correction.advance (c : Correction) (now : Nat) : Nat :=
  match c with
  | .none => 10
  | .slew e start =>
    if now - start ≤ slewTime then
      (10 + (slewApplied e (now - start) - slewApplied e (now - start - 1))).toNat
    else 10
  | .pause _ => 0

/-- Whether a pause is in progress. -/
def Correction.isPause : Correction → Bool
  | .pause _ => true
  | _ => false

/-- Whether epoch `a` is older than epoch `b`: first by second, then by index (Conventions). -/
abbrev EpochKey.older (a b : EpochKey) : Prop :=
  a.second < b.second ∨ (a.second = b.second ∧ a.index < b.index)

/-- Whether the opening horizon lets `e` be opened: H is absent or `e` is newer than H (R63). -/
def opens (horizon : Option EpochKey) (e : EpochKey) : Bool :=
  match horizon with
  | none => true
  | some h => decide (EpochKey.older h e)

/-- The epoch of release rate `rate` that local time lies in (R18). -/
def epochAt (rate : Nat) (t : LocalTime) : EpochKey where
  second := t.second
  index := t.ns * rate / nsPerSecond

/-- The device state (R19). -/
def State.device (s : State) : DeviceState :=
  match s.store.active, s.timebase.localTime with
  | none, _ => .unprovisioned
  | some _, none => .waitingTime
  | some _, some _ => .aligning

/-- The current epoch; it has a value while the device is ALIGNING (R18). -/
def State.currentEpoch (s : State) : Option EpochKey :=
  match s.timebase.localTime with
  | none => none
  | some t => (s.store.governingBank t.second).map fun b => epochAt b.rate t

/-- The epoch after `c`, absent after the last epoch of the era (R53). -/
def State.epochAfter (s : State) (c : EpochKey) : Option EpochKey :=
  match s.store.governingBank c.second with
  | none => none
  | some b =>
    if c.index + 1 < b.rate then some ⟨c.second, c.index + 1⟩
    else if c.second < lastSecond then some ⟨c.second + 1, 0⟩
    else none

/-- The instant `wait` ms after the time of epoch `e` at rate `rate`, exactly (R70). -/
def deadlineOf (rate wait : Nat) (e : EpochKey) : Instant where
  scaled := (e.second * nsPerSecond + wait * 1000000) * rate + e.index * nsPerSecond
  rate := rate

/-- Whether local time equals or has passed an instant (R3). -/
def Instant.reached (i : Instant) (t : LocalTime) : Bool := decide (i.scaled ≤ t.toNs * i.rate)

/-- Whether a local-time timer of instant `i` expires now: local time has reached it and no pause is in progress
(R3). -/
def State.expired (s : State) (i : Instant) : Bool :=
  match s.timebase.localTime with
  | none => false
  | some t => !s.timebase.correction.isPause && i.reached t

/-- Whether an elapsed-time timer runs and elapsed time has reached the value it was set for (R1). -/
def State.timerDue (s : State) (timer : Option Nat) : Bool :=
  match timer with
  | none => false
  | some t => decide (t ≤ s.timebase.elapsed)

/-- The local time class that follows the timebase state (R4); UNSET has none. -/
def TimeState.timeClass : TimeState → Option (Fin 4)
  | .unset => none
  | .locked => some 0
  | .holdover => some 1
  | .drifting => some 2
  | .rejected => some 3

/-- The second-boundary event that local time has reached and that has not been raised yet: the second local time is
in, when the last event was for another second and no pause is in progress (R3, R17). -/
def State.secondDue (s : State) : Option Nat :=
  match s.timebase.localTime with
  | none => none
  | some t =>
    if s.timebase.correction.isPause || s.timebase.lastSecondEvent == some t.second then none
    else some t.second

/-- The part is operating: both supplies good, power-on left, RESET_N high (R191). -/
def State.operating (s : State) : Bool := s.supplies == .good && !s.resetLow

/-- While a reset is acting the part takes nothing (R191). -/
def State.whileOperating (s : State) (f : State → State) : State := if s.operating then f s else s

end Sys2Proof.Machine
end

