-- ==== Sys2Proof/Machine/Flags.lean ====
section
/-! DEFINITION. Conditions: the codes of the kinds, sets of kinds, the live conditions and the attention line
(chapter 11). -/

namespace Sys2Proof.Machine

/-- The code of a condition kind (R188). -/
def Kind.code : Kind → Nat
  | .streamFault => 0
  | .streamQuarantined => 1
  | .conflict => 2
  | .unknownSource => 3
  | .laneEvent => 4
  | .linkError => 5
  | .referenceChange => 6
  | .discontinuity => 7
  | .cursorOverrun => 8
  | .profileSwitched => 9
  | .claimLost => 10
  | .commandDone => 11
  | .tableCleared => 12
  | .snapshotWaiting => 13
  | .rosterChanged => 14

/-- The set that holds the kind of code `c` alone; empty for a code that names no kind. -/
def kindBit (c : Nat) : KindSet := if c < 15 then 1#15 <<< c else 0

/-- Whether a set holds a kind. -/
def kindIn (k : Kind) (s : KindSet) : Bool := s.getLsbD k.code

/-- A set with a kind added; a set that holds it already is left as it is (R175). -/
def addKind (k : Kind) (s : KindSet) : KindSet := s ||| kindBit k.code

/-- The set of kinds a port's condition holds for a truth value. -/
def kindIf (b : Bool) (k : Kind) : KindSet := if b then kindBit k.code else 0

/-- SNAPSHOT_WAITING: some kind of the subscription has its cursor below the next sequence number (R172, R178). -/
def snapshotWaiting (s : State) (p : PortId) : Bool :=
  let port := s.ports[p]
  (port.subFast && decide (port.fastCursor < s.table.nextFast))
    || (port.subFull && decide (port.fullCursor < s.table.nextFull))

/-- ROSTER_CHANGED: some stream's health differs from the port's watch copy (R179). -/
def rosterChanged (s : State) (p : PortId) : Bool :=
  allStreams.any fun i => decide (s.supervisor.streams[i].health ≠ s.ports[p].watch[i])

/-- The live kinds present in a port (R178, R179). -/
def liveKinds (s : State) (p : PortId) : KindSet :=
  kindIf (snapshotWaiting s p) .snapshotWaiting ||| kindIf (rosterChanged s p) .rosterChanged

/-- The kinds present in a port: the latched ones and the live ones. -/
def presentKinds (s : State) (p : PortId) : KindSet := s.ports[p].latched ||| liveKinds s p

/-- Whether a port's attention line is asserted: some kind of its mask is present (R180); deasserted while a reset is
acting (R182, R191).  The line follows the state at once and holds none of its own. -/
def attention (s : State) (p : PortId) : Bool :=
  s.operating && (presentKinds s p &&& s.ports[p].mask) != 0

/-- The level of the pin ATN of a port, active low: true is high (section 12.6, R191). -/
def attentionPin (s : State) (p : PortId) : Bool := !attention s p

end Sys2Proof.Machine
end

