-- ==== Sys2Proof/Machine/Ops.lean ====
section
/-! DEFINITION. The shared operations: replacing one lane, port, stream record or bank of the state, raising condition
kinds, starting timers. -/

namespace Sys2Proof.Machine

/-- A vector with one place changed. -/
def update {α : Type} {n : Nat} (v : Vector α n) (i : Fin n) (f : α → α) : Vector α n :=
  Vector.ofFn fun j => if j = i then f v[j] else v[j]

/-- A vector with every place changed. -/
def updateAll {α : Type} {n : Nat} (v : Vector α n) (f : Fin n → α → α) : Vector α n :=
  Vector.ofFn fun j => f j v[j]

/-- One lane changed. -/
def State.updLane (s : State) (l : LaneId) (f : Lane → Lane) : State := { s with lanes := update s.lanes l f }

/-- One port changed. -/
def State.updPort (s : State) (p : PortId) (f : Port → Port) : State := { s with ports := update s.ports p f }

/-- Every port changed. -/
def State.updPorts (s : State) (f : PortId → Port → Port) : State := { s with ports := updateAll s.ports f }

/-- One stream record changed. -/
def State.updStream (s : State) (i : StreamId) (f : StreamRecord → StreamRecord) : State :=
  { s with supervisor := { s.supervisor with streams := update s.supervisor.streams i f } }

/-- A latched kind raised into a port (R175). -/
def Port.latch (k : Kind) (p : Port) : Port := { p with latched := addKind k p.latched }

/-- A latched kind raised into one port (R175). -/
def State.latchIn (s : State) (p : PortId) (k : Kind) : State := s.updPort p (Port.latch k)

/-- A latched kind raised into all three ports (R175). -/
def State.latchAll (s : State) (k : Kind) : State := s.updPorts fun _ => Port.latch k

/-- The expiry of an elapsed-time timer started now for a length (R1). -/
def State.after (s : State) (length : Nat) : Nat := s.timebase.elapsed + length

/-- Whether the frame a receiver gathers has been broken off by a gap: more than `limit` of elapsed time has gone by at
`now` since its last byte (R147, R185, R187). -/
def Rx.gapPast (rx : Rx) (limit now : Nat) : Bool :=
  match rx with
  | .hunting => false
  | .receiving _ last => decide (limit < now - last)

/-- What a receiver sees of a line that reaches it at the elapsed time `now`: the gap that elapsed time has made comes
before the line's own events. -/
def Rx.sees (rx : Rx) (limit now : Nat) (line : List LineEvent) : List LineEvent :=
  if rx.gapPast limit now then .longGap :: line else line

/-- The time left of an elapsed-time timer. -/
def State.timeLeft (s : State) (timer : Nat) : Nat := timer - s.timebase.elapsed

/-- The timebase's discontinuity mark handed to the table (R20, R21, R63). -/
def State.handMark (s : State) : State := { s with table := { s.table with mark := true } }

/-- DISCONTINUITY latched in all three ports and the mark handed to the table, as each step and each new pause does
(R21). -/
def State.raiseDiscontinuity (s : State) : State := (s.latchAll .discontinuity).handMark

/-- The timebase enters a state; a change of state latches REFERENCE_CHANGE in all three ports (R21). -/
def State.enterTimeState (s : State) (st : TimeState) : State :=
  let s1 := { s with timebase := { s.timebase with state := st } }
  if s.timebase.state = st then s1 else s1.latchAll .referenceChange

end Sys2Proof.Machine
end

