-- ==== Sys2Proof/Machine/Supervision.lean ====
section
/-! DEFINITION. The stream supervisor's handling of each report and event (R89 to R113). -/

namespace Sys2Proof.Machine

/-- The elapsed time a silence timer started at `from_` expires at, for a silence limit in seconds (R91). -/
def silenceExpiry (from_ limit : Nat) : Nat := from_ + limit * elapsedSecond

/-- Setting a stream awaiting: AWAITING, streaks 0, the silence timer started (R91). -/
def StreamRecord.setAwaiting (now limit : Nat) (r : StreamRecord) : StreamRecord :=
  { r with
    health := .awaiting
    missStreak := 0
    onTimeStreak := 0
    silenceTimer := some (silenceExpiry now limit) }

/-- The fault count made 0 and the quiet timer stopped (R97, R99, R108, R109). -/
def StreamRecord.forgetFaults (r : StreamRecord) : StreamRecord :=
  { r with faultCount := 0, quietTimer := none }

/-- Whether a record is judged: AWAITING, LIVE, LAGGING or SILENT (R94, R98). -/
def Health.judged : Health → Bool
  | .awaiting => true
  | .live => true
  | .lagging => true
  | .silent => true
  | _ => false

/-- Whether the table expects a stream of this health (R68). -/
def Health.expected : Health → Bool
  | .awaiting => true
  | .live => true
  | .lagging => true
  | _ => false

/-- One sample of the latency tracker (R102). -/
def trackSample (t : Option Tracker) (L : Nat) : Tracker :=
  match t with
  | none => { last := L, smoothed := L, peak := L }
  | some t => { last := L, smoothed := (15 * t.smoothed + L + 8) / 16, peak := max t.peak L }

/-- The later of a kept elapsed time and an arrival (R92). -/
def laterOf (kept : Option Nat) (t : Nat) : Nat :=
  match kept with
  | none => t
  | some k => max k t

/-- The silence timer's expiry at a stream (R93). -/
def StreamRecord.expireSilence (r : StreamRecord) : StreamRecord :=
  match r.health with
  | .awaiting | .live | .lagging => { r with health := .silent, silenceTimer := none }
  | _ => { r with silenceTimer := none }

/-- The common effects of an acceptance (R92).  A silence timer started for an instant that is not after `now` expires
at once. -/
def StreamRecord.acceptCommon (now limit L : Nat) (lane : LaneId) (arrival : Nat) (r : StreamRecord) :
    StreamRecord :=
  let seen := laterOf r.lastAccepted arrival
  let r1 :=
    { r with
      lastLane := some lane
      lastAccepted := some seen
      silenceTimer := some (silenceExpiry seen limit)
      tracker := some (trackSample r.tracker L) }
  if silenceExpiry seen limit ≤ now then r1.expireSilence else r1

/-- An acceptance at a stream record (R92). -/
def StreamRecord.accept (now limit L : Nat) (lane : LaneId) (arrival : Nat) (r : StreamRecord) : StreamRecord :=
  match r.health with
  | .awaiting | .silent =>
    { r with health := .live, missStreak := 0, onTimeStreak := 0 }.acceptCommon now limit L lane arrival
  | .live | .lagging => r.acceptCommon now limit L lane arrival
  | .unconfigured | .quarantined | .halted => r

/-- The silence limit of the active bank, in seconds (R91). -/
def State.silenceLimit (s : State) : Nat :=
  match s.store.activeBank with
  | some b => b.silenceLimit
  | none => 0

/-- The supervisor takes an acceptance (R92). -/
def State.acceptance (s : State) (i : StreamId) (L : Nat) (lane : LaneId) (arrival : Nat) : State :=
  s.updStream i (StreamRecord.accept s.timebase.elapsed s.silenceLimit L lane arrival)

/-- The entry into QUARANTINED at a stream record (R96). -/
def StreamRecord.quarantine (r : StreamRecord) : StreamRecord :=
  { r with health := .quarantined, quietTimer := none, silenceTimer := none, missStreak := 0, onTimeStreak := 0 }

/-- Whether one more fault quarantines a stream: it is judged and its count is one below the limit (R94). -/
def StreamRecord.atLimit (r : StreamRecord) : Bool := r.health.judged && r.faultCount + 1 == faultLimit

/-- A fault at a stream record (R94, R96). -/
def StreamRecord.fault (now : Nat) (k : FaultKind) (r : StreamRecord) : StreamRecord :=
  match r.health with
  | .awaiting | .live | .lagging | .silent =>
    let r1 :=
      { r with
        faultCount := min (r.faultCount + 1) faultLimit
        lastFault := some k
        quietTimer := some (now + quietTime) }
    if r.atLimit then r1.quarantine else r1
  | .quarantined => { r with lastFault := some k }
  | .unconfigured | .halted => r

/-- Whether a fault taken in this health latches STREAM_FAULT (R94). -/
def Health.faultLatches : Health → Bool
  | .unconfigured => false
  | .halted => false
  | _ => true

/-- The supervisor takes a fault report: the record, STREAM_FAULT, and STREAM_QUARANTINED at an entry into QUARANTINED
(R94, R96). -/
def State.faultReport (s : State) (i : StreamId) (k : FaultKind) : State :=
  let r := s.supervisor.streams[i]
  let s1 := s.updStream i (StreamRecord.fault s.timebase.elapsed k)
  let s2 := if r.health.faultLatches then s1.latchAll .streamFault else s1
  if r.atLimit then s2.latchAll .streamQuarantined else s2

/-- A HALT effect at a stream record (R98). -/
def StreamRecord.halt (r : StreamRecord) : StreamRecord :=
  match r.health with
  | .unconfigured => r
  | _ =>
    { r with health := .halted, silenceTimer := none, quietTimer := none, missStreak := 0, onTimeStreak := 0 }

/-- A RESUME effect at a stream record (R99). -/
def StreamRecord.resume (now limit : Nat) (r : StreamRecord) : StreamRecord :=
  match r.health with
  | .halted => r.forgetFaults.setAwaiting now limit
  | _ => r

/-- LIVE and LAGGING after a streak has changed (R101). -/
def StreamRecord.judgeLag (r : StreamRecord) : StreamRecord :=
  match r.health with
  | .live => if streakLimit ≤ r.missStreak then { r with health := .lagging } else r
  | .lagging => if streakLimit ≤ r.onTimeStreak then { r with health := .live } else r
  | _ => r

/-- One item of a presence report at a stream record (R100). -/
def StreamRecord.presence (present : Bool) (r : StreamRecord) : StreamRecord :=
  match r.health with
  | .live | .lagging =>
    (if present then { r with onTimeStreak := min (r.onTimeStreak + 1) streakLimit, missStreak := 0 }
     else { r with missStreak := min (r.missStreak + 1) streakLimit, onTimeStreak := 0 }).judgeLag
  | _ => r

/-- The supervisor takes a presence report, item by item in index order (R100). -/
def State.presenceReport (s : State) (items : List (StreamId × Bool)) : State :=
  items.foldl (fun s item => s.updStream item.1 (StreamRecord.presence item.2)) s

/-! ### Once a second -/

/-- The decay of a peak figure (R103). -/
def Tracker.decay (t : Tracker) : Tracker := { t with peak := max t.smoothed (t.peak - t.peak / 32) }

/-- The decay of a stream's peak figure, whatever its health (R103). -/
def StreamRecord.decayPeak (r : StreamRecord) : StreamRecord := { r with tracker := r.tracker.map Tracker.decay }

/-- The peak figures of the streams that are LIVE and gating in the active bank `b` (R105). -/
def gatingPeaks (b : Bank) (streams : Vector StreamRecord 48) : List Nat :=
  allStreams.filterMap fun i =>
    if streams[i].health = .live ∧ b.gating i = true then streams[i].tracker.map Tracker.peak else none

/-- A value raised to a lower bound and then lowered to an upper bound (R105). -/
def raiseThenLower (lo hi v : Nat) : Nat := min (max v lo) hi

/-- The fast wait that the second-boundary event sets for the active bank `b`, in ms (R105, R106). -/
def secondFastWait (b : Bank) (streams : Vector StreamRecord 48) : Nat :=
  if b.adaptive then
    match gatingPeaks b streams with
    | [] => b.fastMax
    | p :: ps => raiseThenLower b.fastMin b.fastMax ((ps.foldl max p + 999) / 1000 + b.margin)
  else b.fixedWait

/-- The fast wait an activation or the reset line sets for a bank, in ms (R108, R113). -/
def initialFastWait (b : Bank) : Nat := if b.adaptive then b.fastMax else b.fixedWait

/-- The smoothed figure of a stream in LIVE or LAGGING (R107). -/
def listedFigure (r : StreamRecord) : Option Nat :=
  match r.health with
  | .live | .lagging => r.tracker.map Tracker.smoothed
  | _ => none

/-- A stream put into a list ordered by figure, largest first, behind every stream of the same figure (R107). -/
def insertByFigure (x : StreamId × Nat) : List (StreamId × Nat) → List (StreamId × Nat)
  | [] => [x]
  | y :: ys => if y.2 < x.2 then x :: y :: ys else y :: insertByFigure x ys

/-- The worst-latency list: LIVE and LAGGING streams by S, largest first, a tie going to the lower index, the first
four (R107). -/
def worstList (streams : Vector StreamRecord 48) : List StreamId :=
  let listed := allStreams.filterMap fun i => (listedFigure streams[i]).map fun f => (i, f)
  ((listed.foldl (fun acc x => insertByFigure x acc) []).map Prod.fst).take worstLimit

/-- The supervisor's work at the second-boundary event for second `x`, in the order of R104. -/
def State.supervisorSecond (s : State) (x : Nat) : State :=
  let streams := updateAll s.supervisor.streams fun _ => StreamRecord.decayPeak
  let wait :=
    match s.store.active with
    | some a => { ms := secondFastWait (s.store.bank a) streams, bank := some a }
    | none => s.supervisor.fastWait
  { s with
    supervisor := { streams := streams, worst := worstList streams, worstSecond := some x, fastWait := wait } }

/-! ### Activation and clearing -/

/-- What an activation makes of the stream record at an index (R108). -/
def StreamRecord.carryOver (now : Nat) (old : Option Bank) (new : Bank) (i : StreamId) (r : StreamRecord) :
    StreamRecord :=
  if new.enabled i then
    match old with
    | some o =>
      if o.enabled i = true ∧ o.station i = new.station i then r
      else StreamRecord.unconfigured.setAwaiting now new.silenceLimit
    | none => StreamRecord.unconfigured.setAwaiting now new.silenceLimit
  else StreamRecord.unconfigured

/-- Whether an activation keeps the stream record at an index (R108). -/
def keptIndex (old : Option Bank) (new : Bank) (i : StreamId) : Bool :=
  match old with
  | some o => new.enabled i && o.enabled i && o.station i == new.station i
  | none => false

/-- The supervisor takes an activation: the new active bank is `a`, the bank active before had contents `old`
(R108). -/
def State.supervisorActivation (s : State) (old : Option Bank) (a : BankId) : State :=
  let new := s.store.bank a
  { s with
    supervisor :=
      { s.supervisor with
        streams := updateAll s.supervisor.streams (StreamRecord.carryOver s.timebase.elapsed old new)
        worst := s.supervisor.worst.filter (keptIndex old new)
        fastWait := { ms := initialFastWait new, bank := some a } } }

/-- What a clear makes of a stream record (R109). -/
def StreamRecord.clear (now limit : Nat) (r : StreamRecord) : StreamRecord :=
  match r.health with
  | .awaiting | .live | .lagging | .silent => { r.forgetFaults with tracker := none }.setAwaiting now limit
  | .halted | .quarantined => { r with missStreak := 0, onTimeStreak := 0, tracker := none }
  | .unconfigured => r

/-- The supervisor takes CLEAR ALIGNMENT (R109). -/
def State.supervisorClear (s : State) : State :=
  { s with
    supervisor :=
      { s.supervisor with
        streams := updateAll s.supervisor.streams fun _ => StreamRecord.clear s.timebase.elapsed s.silenceLimit
        worst := []
        worstSecond := none } }

/-- The supervisor after the reset line: the indices enabled in the retained active bank are awaiting from elapsed
time 0 (R113). -/
def Supervisor.resetLine (ps : ProfileStore) : Supervisor :=
  match ps.active with
  | none => Supervisor.reset
  | some a =>
    { streams := Vector.ofFn fun i =>
        if (ps.bank a).enabled i then StreamRecord.unconfigured.setAwaiting 0 (ps.bank a).silenceLimit
        else StreamRecord.unconfigured
      worst := []
      worstSecond := none
      fastWait := { ms := initialFastWait (ps.bank a), bank := some a } }

end Sys2Proof.Machine
end

