-- ==== Sys2Proof/Machine/Table.lean ====
section
/-! DEFINITION. The alignment table: slots and their states, opening and recycling, storing, readiness, the release pass,
deadlines, arrivals, the table's answers and clearing (R60 to R88). -/

namespace Sys2Proof.Machine

/-- The states of a slot that is not FREE (R60). -/
inductive SlotState where
  | opened | fastCut | closed
  deriving DecidableEq, Repr

/-- The state of a slot, read from its cuts: OPEN before its fast cut, FAST_CUT before its full cut, CLOSED with both
(R60). -/
def Slot.state (sl : Slot) : SlotState :=
  match sl.fastCut, sl.fullCut with
  | none, _ => .opened
  | some _, none => .fastCut
  | some _, some _ => .closed

/-- Whether a stream has an entry in a slot (R62). -/
def Slot.present (sl : Slot) (i : StreamId) : Bool := sl.entries[i].isSome

/-- Whether a set of streams is nonempty and every stream of it is present (R76, R77). -/
def Slot.complete (sl : Slot) (set : List StreamId) : Bool := !set.isEmpty && set.all sl.present

/-- The slot that holds an epoch (R60). -/
def AlignTable.find (t : AlignTable) (e : EpochKey) : Option Slot := t.slots.find? fun sl => sl.key == e

/-- The table with the slot of an epoch changed. -/
def AlignTable.modify (t : AlignTable) (e : EpochKey) (f : Slot → Slot) : AlignTable :=
  { t with slots := t.slots.map fun sl => if sl.key = e then f sl else sl }

/-- How many slots are in a state (R87). -/
def AlignTable.countState (t : AlignTable) (st : SlotState) : Nat := t.slots.countP fun sl => sl.state == st

/-- The number of non-CLOSED slots of a generation (R84). -/
def AlignTable.nonClosed (t : AlignTable) (g : Generation) : Nat :=
  t.slots.countP fun sl => sl.generation == g && sl.state != .closed

/-! ### The table's answers (R83) -/

/-- The sequence number of a slot's cut of a kind. -/
def Slot.seq (sl : Slot) : SnapKind → Option Nat
  | .fast => sl.fastCut.map Cut.seq
  | .full => sl.fullCut.map Cut.seq

/-- The next sequence number of a kind (R83). -/
def AlignTable.next (t : AlignTable) : SnapKind → Nat
  | .fast => t.nextFast
  | .full => t.nextFull

/-- The slot that holds the cut of a kind with a number, when that number is retained (R83). -/
def AlignTable.retained (t : AlignTable) (k : SnapKind) (n : Nat) : Option Slot :=
  t.slots.find? fun sl => sl.seq k == some n

/-- The oldest retained number of a kind (R83): the slots stand in epoch order, which is the order of the numbers
(R80). -/
def AlignTable.oldest (t : AlignTable) (k : SnapKind) : Option Nat := (t.slots.filterMap fun sl => sl.seq k).head?

/-! ### Opening (R63 to R70) -/

/-- The FREE slot with the lowest number (R66). -/
def freeNumber (slots : List Slot) : Option (Fin 512) :=
  allSlots.find? fun n => !slots.any fun sl => sl.number == n

/-- The CLOSED slot of the oldest epoch, and the slots without it (R66). -/
def takeClosed : List Slot → Option (Slot × List Slot)
  | [] => none
  | sl :: rest =>
    if sl.state = .closed then some (sl, rest)
    else (takeClosed rest).map fun r => (r.1, sl :: r.2)

/-- CURSOR_OVERRUN in each port whose fast or full cursor names a number of the recycled slot (R66). -/
def State.tellOverrun (s : State) (sl : Slot) : State :=
  s.updPorts fun _ p =>
    if sl.seq .fast = some p.fastCursor ∨ sl.seq .full = some p.fullCursor then p.latch .cursorOverrun else p

/-- The slot number an opening takes, with the state after the recycling it may need; none when no slot is FREE and
none is CLOSED (R66). -/
def State.claimSlot (s : State) : Option (Fin 512 × State) :=
  match freeNumber s.table.slots with
  | some n => some (n, s)
  | none =>
    match takeClosed s.table.slots with
    | some r => some (r.1.number, { s.tellOverrun r.1 with table := { s.table with slots := r.2 } })
    | none => none

/-- Whether epoch index `k` is on the grid of stream `i` (R68). -/
def Bank.onGrid (b : Bank) (i : StreamId) (k : Nat) : Bool :=
  if b.streamRate i < b.rate then k % (b.rate / b.streamRate i) == 0 else true

/-- The health of a stream as an opening under bank `b` takes it (R68).  For an index without a supervised stream R68
gives AWAITING under a pending bank; the model takes the same under a draining bank, where no rule speaks
(notes/assumptions/15.md). -/
def State.openingHealth (s : State) (b : BankId) (i : StreamId) : Health :=
  if s.store.supervised b i then s.supervisor.streams[i].health else .awaiting

/-- The expected set of a slot (R68). -/
def State.expectedSet (s : State) (b : BankId) (k : Nat) : List StreamId :=
  allStreams.filter fun i =>
    (s.store.bank b).enabled i && (s.store.bank b).onGrid i k && (s.openingHealth b i).expected

/-- The gating set of a slot (R69). -/
def State.gatingSet (s : State) (b : BankId) (k : Nat) : List StreamId :=
  (s.expectedSet b k).filter fun i => (s.store.bank b).gating i && s.openingHealth b i != .lagging

/-- The fast wait of an opening under bank `b`, in ms (R70). -/
def State.openingFastWait (s : State) (b : BankId) : Nat :=
  if s.supervisor.fastWait.bank = some b then s.supervisor.fastWait.ms
  else initialFastWait (s.store.bank b)

/-- Whether a slot of generation `g` opens with discontinuity (R70). -/
def AlignTable.discontinuityFor (t : AlignTable) (g : Generation) : Bool :=
  t.mark || (match t.lastGeneration with
    | some last => last != g
    | none => false)

/-- The slot opened for an epoch under bank `b` and generation `g` (R61, R67 to R70). -/
def State.newSlot (s : State) (n : Fin 512) (e : EpochKey) (b : BankId) (g : Generation) : Slot where
  number := n
  key := e
  bank := b
  generation := g
  enabled := allStreams.filter (s.store.bank b).enabled
  expected := s.expectedSet b e.index
  gating := s.gatingSet b e.index
  entries := Vector.ofFn fun _ => none
  fastDeadline := deadlineOf (s.store.bank b).rate (s.openingFastWait b) e
  fullDeadline := deadlineOf (s.store.bank b).rate (s.store.bank b).fullWait e
  fastReady := none
  fullReady := none
  fastCut := none
  fullCut := none
  discontinuity := s.table.discontinuityFor g
  timeClass := (s.timebase.state.timeClass).getD 0

/-- Opening a slot for an epoch; true when a slot was opened.  When none can be, H is set all the same (R66). -/
def State.openSlot (s : State) (e : EpochKey) : State × Bool :=
  match s.store.governing e.second, s.claimSlot with
  | some g, some c =>
    ({ c.2 with
        table :=
          { c.2.table with
            slots := c.2.table.slots ++ [s.newSlot c.1 e g.1 g.2]
            horizon := some e
            mark := false
            lastGeneration := some g.2 } }, true)
  | _, _ => ({ s with table := { s.table with horizon := some e } }, false)

/-! ### Readiness and release (R76 to R82) -/

/-- Readiness judged after an entry is stored (R76, R77). -/
def Slot.judge (sl : Slot) : Slot :=
  let fast :=
    if sl.fastReady.isSome || sl.state != .opened then sl.fastReady
    else if sl.complete sl.expected then some .complete
    else if sl.complete sl.gating then some .gating
    else none
  let full :=
    if sl.fullReady.isSome || sl.state == .closed then sl.fullReady
    else if sl.complete sl.expected then some .complete
    else none
  { sl with fastReady := fast, fullReady := full }

/-- The first part of the release pass: the slots after it, the next fast number, and the slots cut, oldest first
(R80, R81). -/
def fastPass : List Slot → Nat → List Slot × Nat × List Slot
  | [], n => ([], n, [])
  | sl :: rest, n =>
    match sl.fastCut, sl.fastReady with
    | some _, _ => (sl :: (fastPass rest n).1, (fastPass rest n).2)
    | none, none => (sl :: rest, n, [])
    | none, some c =>
      ({ sl with fastCut := some ⟨c, n⟩ } :: (fastPass rest (n + 1)).1,
        (fastPass rest (n + 1)).2.1,
        { sl with fastCut := some ⟨c, n⟩ } :: (fastPass rest (n + 1)).2.2)

/-- The second part of the release pass: the slots after it and the next full number (R80, R82). -/
def fullPass : List Slot → Nat → List Slot × Nat
  | [], n => ([], n)
  | sl :: rest, n =>
    match sl.fullCut, sl.fullReady, sl.fastCut with
    | some _, _, _ => (sl :: (fullPass rest n).1, (fullPass rest n).2)
    | none, some c, some _ =>
      ({ sl with fullCut := some ⟨c, n⟩ } :: (fullPass rest (n + 1)).1, (fullPass rest (n + 1)).2)
    | none, _, _ => (sl :: rest, n)

/-- The presence report of a slot at its fast cut: the streams of its expected set that it has a supervised stream for,
in index order, each with whether an entry is present (R81). -/
def presenceItems (ps : ProfileStore) (sl : Slot) : List (StreamId × Bool) :=
  (sl.expected.filter (ps.supervised sl.bank)).map fun i => (i, sl.present i)

/-- The table after a release pass (R80). -/
def AlignTable.release (t : AlignTable) : AlignTable :=
  let fast := fastPass t.slots t.nextFast
  let full := fullPass fast.1 t.nextFull
  { t with slots := full.1, nextFast := fast.2.1, nextFull := full.2 }

/-- The slots a release pass issues fast cuts for, oldest first (R80). -/
def AlignTable.fastCuts (t : AlignTable) : List Slot := (fastPass t.slots t.nextFast).2.2

/-- The release pass: the cuts, and the presence reports of the fast cuts in the order they are issued (R80, R81). -/
def State.releasePass (s : State) : State :=
  s.table.fastCuts.foldl (fun s sl => s.presenceReport (presenceItems s.store sl))
    { s with table := s.table.release }

/-! ### Deadlines (R78, R79) -/

/-- The expiry of the fast deadline of the slot for an epoch, when local time has reached it and no pause is in
progress (R3, R78). -/
def State.fastDeadline (s : State) (e : EpochKey) : State :=
  match s.table.find e with
  | some sl =>
    if s.expired sl.fastDeadline && sl.state == .opened && sl.fastReady.isNone then
      { s with table := s.table.modify e fun sl => { sl with fastReady := some .deadline } }.releasePass
    else s
  | none => s

/-- The expiry of the full deadline of the slot for an epoch, when local time has reached it and no pause is in
progress (R3, R78). -/
def State.fullDeadline (s : State) (e : EpochKey) : State :=
  match s.table.find e with
  | some sl =>
    if s.expired sl.fullDeadline && sl.state != .closed && sl.fullReady.isNone then
      { s with table := s.table.modify e fun sl => { sl with fullReady := some .deadline } }.releasePass
    else s
  | none => s

/-- The expiries that fall together for a list of epochs, oldest first, fast before full (R79). -/
def State.expireDeadlines (s : State) (es : List EpochKey) : State :=
  es.foldl (fun s e => (s.fastDeadline e).fullDeadline e) s

/-- Every expiry that local time has reached, in epoch order (R79). -/
def State.expireAll (s : State) : State := s.expireDeadlines (s.table.slots.map Slot.key)

/-! ### Epoch boundaries (R64) -/

/-- The table takes the epoch-boundary event of the current epoch, which exists while the device is ALIGNING: it opens
the slot when H lets it, and a deadline that local time has already reached expires at the opening (R18, R64, R70). -/
def State.epochBoundary (s : State) : State :=
  match s.currentEpoch with
  | some c =>
    if opens s.table.horizon c = true then
      ((s.openSlot c).1).expireDeadlines [c]
    else s
  | none => s

/-! ### Arrivals (R65, R71 to R74) -/

/-- The outcomes of a placed record (R71). -/
inductive TakeOutcome where
  | stored | storedLate | duplicate | conflict | tooLate
  deriving DecidableEq, Repr

/-- The entry a placed record becomes (R62, R72). -/
def PlacedRecord.entry (r : PlacedRecord) (late : Bool) : Entry where
  record := r.record
  deltaNs := r.deltaNs
  correction := r.correction
  lane := r.lane
  latency := r.latency
  doubtful := r.doubtful
  corrected := r.corrected
  uncorrected := r.uncorrected
  late := late
  mark := .none

/-- A record stored in the slot of its epoch, LATE when the slot is FAST_CUT, and readiness judged (R72, R76, R77). -/
def Slot.store (r : PlacedRecord) (sl : Slot) : Slot :=
  { sl with entries := update sl.entries r.stream fun _ => some (r.entry (sl.state == SlotState.fastCut)) }.judge

/-- The record stored, readiness judged, and the release pass run (R72). -/
def State.storeRecord (s : State) (r : PlacedRecord) : State :=
  { s with table := s.table.modify r.key (Slot.store r) }.releasePass

/-- A conflict marked on the kept entry of a stream: the mark changes once, from NONE (R74). -/
def Slot.markConflict (i : StreamId) (sl : Slot) : Slot :=
  { sl with
    entries := update sl.entries i fun e =>
      e.map fun e =>
        if e.mark = .none then
          { e with mark := if sl.state = .opened then .beforeFastCut else .afterFastCut }
        else e }

/-- A record for an epoch that no slot holds (R65): TOO_LATE, or the slots it opens, the record stored, and then the
deadlines of those slots that local time has already reached (R70); the presence reports of their cuts come before the
record's acceptance (R100; notes/assumptions/11.md). -/
def State.takeNew (s : State) (r : PlacedRecord) : State × TakeOutcome :=
  match s.currentEpoch with
  | none => (s, .tooLate)
  | some c =>
    if (s.store.governing r.key.second).map Prod.fst ≠ some r.bank then (s, .tooLate)
    else if EpochKey.older r.key c then (s, .tooLate)
    else if opens s.table.horizon r.key = false then (s, .tooLate)
    else if r.key = c then
      let o := s.openSlot c
      if o.2 then ((o.1.storeRecord r).expireDeadlines [c], .stored) else (o.1, .tooLate)
    else if s.epochAfter c = some r.key then
      let first := opens s.table.horizon c && (s.table.find c).isNone
      let o1 := if first then s.openSlot c else (s, false)
      let o2 := o1.1.openSlot r.key
      let opened := if o1.2 then [c, r.key] else [r.key]
      if o2.2 then ((o2.1.storeRecord r).expireDeadlines opened, .stored)
      else (o2.1.expireDeadlines opened, .tooLate)
    else (s, .tooLate)

/-- The table decides a placed record against the slots as they stand (R71). -/
def State.takeRecord (s : State) (r : PlacedRecord) : State × TakeOutcome :=
  match s.table.find r.key with
  | none => s.takeNew r
  | some sl =>
    if sl.state = .closed then (s, .tooLate)
    else if sl.bank ≠ r.bank then (s, .tooLate)
    else
      match sl.entries[r.stream] with
      | some e =>
        if e.record = r.record then (s, .duplicate)
        else
          let s1 := { s with table := s.table.modify r.key (Slot.markConflict r.stream) }.latchAll .conflict
          (if r.supervised then s1.faultReport r.stream .conflict else s1, .conflict)
      | none => (s.storeRecord r, if sl.state = .opened then .stored else .storedLate)

/-! ### Clearing (R85) -/

/-- The table takes CLEAR ALIGNMENT: every slot FREE, the mark outstanding, and H at the current epoch when the device
is ALIGNING (R85). -/
def State.tableClear (s : State) : State :=
  { s with
    table :=
      { s.table with
        slots := []
        mark := true
        horizon := if s.device = .aligning then s.currentEpoch else s.table.horizon } }

end Sys2Proof.Machine
end

