-- ==== Sys2Proof/Machine/Placement.lean ====
section
/-! DEFINITION. The placement unit: the bank, the stream, the checks in their order, the grid arithmetic and the angle
correction (R41 to R59). -/

namespace Sys2Proof.Machine

/-- The placement bank of a record with timestamp second `x`; none is TOO_LATE before lookup (R42). -/
def ProfileStore.placementBank (ps : ProfileStore) (x : Nat) : Option BankId :=
  match ps.active with
  | none => none
  | some a =>
    match ps.pendingSwitch, ps.draining, ps.lastSwitch with
    | some S, _, _ => if S ≤ x then some ps.standby else some a
    | none, some d, _ => if x < d.second then some ps.standby else some a
    | none, none, some S => if x < S then none else some a
    | none, none, none => some a

/-- The stream of a station code among the enabled streams of a bank; codes 0 and 65535 are never found (R43). -/
def Bank.lookup (b : Bank) (code : Nat) : Option StreamId :=
  if code = 0 ∨ code = 65535 then none
  else allStreams.find? fun i => b.enabled i && b.station i == code

/-- The grid index j of a fraction at a stream rate, before any rollover (R49). -/
def gridIndex (f rate : Nat) : Nat := (f * rate + 500000000) / nsPerSecond

/-- The scaled offset δ_scaled (R49). -/
def scaledOffset (f rate : Nat) : Int := (f * rate : Nat) - (gridIndex f rate * nsPerSecond : Nat)

/-- The offset δ_ns, truncated toward zero (R51). -/
def offsetNs (f rate : Nat) : Int := Int.tdiv (scaledOffset f rate) rate

/-- Whether a scaled offset is within a tolerance in µs (R51). -/
def withinTolerance (f rate tolerance : Nat) : Bool :=
  decide ((scaledOffset f rate).natAbs ≤ tolerance * 1000 * rate)

/-- The epoch index of a grid index after rollover, or none for a between-grid record (R52). -/
def epochIndex (releaseRate rate j : Nat) : Option Nat :=
  if releaseRate < rate then
    if j % (rate / releaseRate) = 0 then some (j / (rate / releaseRate)) else none
  else some (j * (releaseRate / rate))

/-- A quotient by 10^12 rounded to the nearest integer, a half going away from zero (R54). -/
def roundTera (q : Int) : Int :=
  if q < 0 then -(((2 * q.natAbs + 1000000000000) / 2000000000000 : Nat) : Int)
  else ((2 * q.natAbs + 1000000000000) / 2000000000000 : Nat)

/-- c, the turn of a phasor over δ in angle units (R54). -/
def phasorTurn (freqDev deltaNs : Int) : Int := roundTera (freqDev * deltaNs * 65536)

/-- A frequency deviation of −32768 means not available (R33). -/
def freqAvailable (r : Record) : Bool := r.freqDev != 0x8000#16

/-- The turn that is taken off a record's angles; 0 when the three conditions of R54 do not all hold. -/
def recordTurn (correctionOn : Bool) (r : Record) (deltaNs : Int) : Int :=
  if correctionOn && freqAvailable r then phasorTurn r.freqDev.toInt deltaNs else 0

/-- A record with every angle turned back, modulo 65536 (R54). -/
def Record.turnBack (r : Record) (c : Int) : Record :=
  { r with phasors := r.phasors.map fun p => { p with angle := p.angle - BitVec.ofInt 16 c } }

/-- The latency L in µs, clamped (R57). -/
def latencyOf (arrival : LocalTime) (r : Record) : Nat :=
  let diff : Int := (arrival.toNs : Int) - ((r.second.toNat * nsPerSecond + r.fraction.toNat : Nat) : Int)
  min (diff / 1000).toNat latencyLimit

/-- What the placement unit makes of a record (R58): a drop that reports nothing, UNKNOWN_SOURCE, a fault, or a placed
record. -/
inductive Placement where
  | dropped
  | unknownSource
  | fault (supervised : Option StreamId) (k : FaultKind)
  | placed (r : PlacedRecord)
  deriving DecidableEq, Repr

/-- The supervised stream of index `i` of the placement bank, if it has one (R44). -/
def ProfileStore.supervisedStream (ps : ProfileStore) (b : BankId) (i : StreamId) : Option StreamId :=
  if ps.supervised b i then some i else none

/-- The AHEAD test (R53): the key is newer than the next epoch, or than the current one where there is no next. -/
def State.isAhead (s : State) (e : EpochKey) : Bool :=
  match s.currentEpoch with
  | none => false
  | some c =>
    match s.epochAfter c with
    | some n => decide (EpochKey.older n e)
    | none => decide (EpochKey.older c e)

/-- The record completed for hand-off (R54 to R58). -/
def completeRecord (bank : Bank) (b : BankId) (i : StreamId) (supervised : Bool) (e : EpochKey) (deltaNs : Int)
    (item : QueueItem) (arrival : LocalTime) (r : Record) : PlacedRecord :=
  let on := bank.angleCorrection i
  let c := recordTurn on r deltaNs
  { key := e
    bank := b
    stream := i
    supervised := supervised
    record := r.turnBack c
    deltaNs := deltaNs
    correction := -c
    lane := item.lane
    latency := latencyOf arrival r
    arrivalElapsed := item.arrivalElapsed
    doubtful := decide (bank.threshold < r.quality.toNat)
    corrected := decide (c ≠ 0)
    uncorrected := on && decide (deltaNs ≠ 0) && !freqAvailable r }

/-- The checks that follow the tolerance test, on the rolled epoch second (R50, R52, R53), and the completion of a
record that passes them.  `j` is the grid index before any rollover. -/
def State.placeOnGrid (s : State) (b : BankId) (i : StreamId) (item : QueueItem) (arrival : LocalTime) (r : Record) :
    Placement :=
  let bank := s.store.bank b
  let rate := bank.streamRate i
  let sup := s.store.supervisedStream b i
  let j := gridIndex r.fraction.toNat rate
  let rolls := j == rate
  let second := if rolls then r.second.toNat + 1 else r.second.toNat
  if rolls ∧ r.second.toNat = lastSecond then .fault sup .ahead
  else if rolls ∧ s.store.placementBank second ≠ some b then .dropped
  else
    match epochIndex bank.rate rate (if rolls then 0 else j) with
    | none => .dropped
    | some k =>
      if s.isAhead ⟨second, k⟩ then .fault sup .ahead
      else
        .placed
          (completeRecord bank b i sup.isSome ⟨second, k⟩ (offsetNs r.fraction.toNat rate) item arrival r)

/-- The checks on a record whose bank and stream are found: health, time, shape, tolerance (R45, R47, R48, R51), in the
order in which R58 gathers the outcomes. -/
def State.placeFound (s : State) (b : BankId) (i : StreamId) (item : QueueItem) (arrival : LocalTime) (r : Record) :
    Placement :=
  let bank := s.store.bank b
  let sup := s.store.supervisedStream b i
  let health := s.supervisor.streams[i].health
  if sup.isSome ∧ (health = .quarantined ∨ health = .halted) then .dropped
  else if r.quality = 15 ∨ nsPerSecond ≤ r.fraction.toNat then .fault sup .timeInvalid
  else if r.phasors.length ≠ bank.phasorCount i ∨ r.analogs.length ≠ bank.analogCount i then .fault sup .shape
  else if withinTolerance r.fraction.toNat (bank.streamRate i) bank.tolerance = false then .fault sup .offGrid
  else s.placeOnGrid b i item arrival r

/-- The placement unit on a measurement record (R41 to R58). -/
def State.place (s : State) (item : QueueItem) (arrival : LocalTime) (r : Record) : Placement :=
  match s.store.placementBank r.second.toNat with
  | none => .dropped
  | some b =>
    match (s.store.bank b).lookup r.station.toNat with
    | none => .unknownSource
    | some i => s.placeFound b i item arrival r

/-- The effect of a placement: UNKNOWN_SOURCE latched (R43), a fault reported for a supervised stream (R44, R46), or the
record handed on to the table, for which the arbiter then waits (R31, R58). -/
def State.applyPlacement (s : State) : Placement → State
  | .dropped => s
  | .unknownSource => s.latchAll .unknownSource
  | .fault (some i) k => s.faultReport i k
  | .fault none _ => s
  | .placed r => { s with arbiter := { s.arbiter with handling := some r } }

end Sys2Proof.Machine
end

