-- ==== Sys2Proof/Machine/Relay.lean ====
section
/-! DEFINITION. The command relay: routes, issuing, acknowledgments, timeouts and outcomes (R135 to R146). -/

namespace Sys2Proof.Machine

/-- A command slot changed. -/
def State.setCommand (s : State) (i : StreamId) (c : Option CommandSlot) : State :=
  { s with relay := { s.relay with slots := update s.relay.slots i fun _ => c } }

/-- The number of PENDING slots (R145). -/
def Relay.pendingCount (r : Relay) : Nat := allStreams.countP fun i => r.slots[i].isSome

/-- The lowest-numbered lane that is UP (R136). -/
def State.lowestUp (s : State) : Option LaneId := allLanes.find? fun l => s.lanes[l].up

/-- The route of a stream: its last lane when present and UP; for a HALTED stream else the lowest-numbered lane that is
UP (R136). -/
def State.route (s : State) (i : StreamId) : Option LaneId :=
  let r := s.supervisor.streams[i]
  match r.lastLane with
  | some l => if s.lanes[l].up then some l else if r.health = .halted then s.lowestUp else none
  | none => if r.health = .halted then s.lowestUp else none

/-- Whether another stream's PENDING command is for a station code (R136). -/
def Relay.stationBusy (r : Relay) (i : StreamId) (station : Nat) : Bool :=
  allStreams.any fun j =>
    decide (j ≠ i) && (match r.slots[j] with
      | some c => c.station == station
      | none => false)

/-- A command frame handed to a lane: it joins the outbound queue, or is dropped and counted when 16 frames wait
(R29). -/
def Lane.hand (f : CommandFrame) (l : Lane) : Lane :=
  if l.outbound.length < laneOutboundLimit then { l with outbound := l.outbound ++ [f] }
  else { l with dropCount := l.dropCount + 1 }

/-- Issuing a command for stream `i` through lane `l` to a station (R137). -/
def State.issueCommand (s : State) (p : PortId) (i : StreamId) (a : Action) (l : LaneId) (station : Nat) : State :=
  let tag := s.relay.tags[i]
  { s with
    relay :=
      { slots := update s.relay.slots i fun _ =>
          some
            { action := a
              port := p
              station := station
              tag := tag
              lane := l
              issued := s.timebase.elapsed
              timeout := s.after commandTime }
        tags := update s.relay.tags i fun t => t + 1 }
    lanes := update s.lanes l (Lane.hand { station := station, tag := tag, action := a }) }

/-- An outcome handed to the issuing port: it replaces the last one and COMMAND_DONE is latched there (R143). -/
def State.handOutcome (s : State) (p : PortId) (o : CommandOutcome) : State :=
  s.updPort p fun q => ({ q with outcome := some o }).latch .commandDone

/-- The effect of a command acknowledged DONE at the supervisor (R98, R99); ECHO has none. -/
def State.commandEffect (s : State) (i : StreamId) : Action → State
  | .halt => s.updStream i StreamRecord.halt
  | .resume => s.updStream i (StreamRecord.resume s.timebase.elapsed s.silenceLimit)
  | .echo => s

/-- Whether the effect of a completed command applies (R140). -/
def State.effectApplies (s : State) (i : StreamId) (c : CommandSlot) (r : AckResult) : Bool :=
  r == .done && c.action != .echo && s.store.activeStation i == some c.station

/-- A command completed by an acknowledgment: the effect, the outcome, the slot EMPTY (R140). -/
def State.completeCommand (s : State) (i : StreamId) (c : CommandSlot) (r : AckResult) (arrival : Nat) : State :=
  let applies := s.effectApplies i c r
  let s1 := if applies then s.commandEffect i c.action else s
  (s1.setCommand i none).handOutcome c.port
    { stream := i
      station := c.station
      action := c.action
      tag := c.tag
      result := (match r with
        | .done => .done
        | .refused => .refused)
      applied := applies
      roundTrip := some (arrival - c.issued) }

/-- A command ended by its timeout (R142). -/
def State.timeOutCommand (s : State) (i : StreamId) (c : CommandSlot) : State :=
  (s.setCommand i none).handOutcome c.port
    { stream := i
      station := c.station
      action := c.action
      tag := c.tag
      result := .timedOut
      applied := false
      roundTrip := none }

/-- Whether an acknowledgment matches a command slot: station code, tag, and an arrival at or after the issue (R139). -/
def CommandSlot.answers (c : CommandSlot) (a : Ack) (arrival : Nat) : Bool :=
  c.station == a.station.toNat && c.tag == a.tag && decide (c.issued ≤ arrival)

/-- The stream whose PENDING slot an acknowledgment matches (R139). -/
def Relay.matching (r : Relay) (a : Ack) (arrival : Nat) : Option (StreamId × CommandSlot) :=
  allStreams.findSome? fun i =>
    match r.slots[i] with
    | some c => if c.answers a arrival then some (i, c) else none
    | none => none

/-- The relay takes an acknowledgment: it completes the command it matches, or is discarded (R139 to R141). -/
def State.acknowledge (s : State) (a : Ack) (arrival : Nat) : State :=
  match s.relay.matching a arrival with
  | some m => s.completeCommand m.1 m.2 a.result arrival
  | none => s

end Sys2Proof.Machine
end

