-- ==== Sys2Proof/Machine/Lanes.lean ====
section
/-! DEFINITION. The lane receivers, the lane frames they check, the outbound side and the intake arbiter (R24 to R40,
R184, R185), with the meanings of the lane and arbiter commands. -/

namespace Sys2Proof.Machine

/-! ### Receiving (R185) -/

/-- What one event on a serial line brings about: nothing, a frame broken off, or the bytes of a whole frame after its
start byte. -/
inductive Arrival where
  | nothing
  | brokenOff
  | whole (bytes : List Byte)
  deriving DecidableEq, Repr

/-- A lane receiver has gathered bytes, the last of them at `now` (R185): a declared length above 106 breaks the frame
off; the last check byte completes it. -/
def laneGather (now : Nat) (got : List Byte) : Rx × Arrival :=
  match got with
  | _ :: len :: rest =>
    if lanePayloadLimit < len.toNat then (.hunting, .brokenOff)
    else if rest.length = len.toNat + 4 then (.hunting, .whole got)
    else (.receiving got now, .nothing)
  | _ => (.receiving got now, .nothing)

/-- A lane receiver takes an event at the elapsed time `now` (R185). -/
def laneReceive (now : Nat) (rx : Rx) (e : LineEvent) : Rx × Arrival :=
  match rx, e with
  | .hunting, .byte b => if b = 0xA5 then (.receiving [] now, .nothing) else (.hunting, .nothing)
  | .hunting, _ => (.hunting, .nothing)
  | .receiving got _, .byte b => laneGather now (got ++ [b])
  | .receiving _ _, _ => (.hunting, .brokenOff)

/-! ### The checks of R24 -/

/-- The phasor pairs of a measurement payload (R184). -/
def parsePhasors (payload : List Byte) (p : Nat) : List Phasor :=
  (List.range p).map fun k =>
    { magnitude := BitVec.ofNat 32 (field payload (18 + 6 * k) 4)
      angle := BitVec.ofNat 16 (field payload (22 + 6 * k) 2) }

/-- The analog values of a measurement payload (R184). -/
def parseAnalogs (payload : List Byte) (p a : Nat) : List Word :=
  (List.range a).map fun k => BitVec.ofNat 32 (field payload (18 + 6 * p + 4 * k) 4)

/-- A MEASUREMENT payload: phasor count 1..12, analog count 0..4, and the length they call for (R24, R184). -/
def parseMeasurement (payload : List Byte) : Option Record :=
  let p := field payload 10 1 % 16
  let a := field payload 11 1
  if 1 ≤ p ∧ p ≤ 12 ∧ a ≤ 4 ∧ payload.length = 18 + 6 * p + 4 * a then
    some
      { station := BitVec.ofNat 16 (field payload 0 2)
        second := BitVec.ofNat 32 (field payload 2 4)
        fraction := BitVec.ofNat 32 (field payload 6 4)
        quality := BitVec.ofNat 4 (field payload 10 1 / 16)
        status := BitVec.ofNat 16 (field payload 12 2)
        freqDev := BitVec.ofNat 16 (field payload 14 2)
        rocof := BitVec.ofNat 16 (field payload 16 2)
        phasors := parsePhasors payload p
        analogs := parseAnalogs payload p a }
  else none

/-- An ACKNOWLEDGMENT payload: four bytes with a result of DONE or REFUSED (R24, R184). -/
def parseAck (payload : List Byte) : Option Ack :=
  if payload.length = 4 ∧ field payload 3 1 ≤ 1 then
    some
      { station := BitVec.ofNat 16 (field payload 0 2)
        tag := BitVec.ofNat 8 (field payload 2 1)
        result := if field payload 3 1 = 0 then .done else .refused }
  else none

/-- The payload of each inbound frame type (R24, R184). -/
def parsePayload (frameType : Byte) (payload : List Byte) : Option LaneContent :=
  if frameType = 0x01 then (parseMeasurement payload).map LaneContent.measurement
  else if frameType = 0x02 then (parseAck payload).map LaneContent.acknowledgment
  else none

/-- The checks of R24 on a whole frame, given as its bytes after the start byte: the check value over type, length and
payload (R185), the type, and the payload. -/
def checkLaneFrame (bytes : List Byte) : Option LaneContent :=
  match bytes with
  | frameType :: len :: rest =>
    let payload := rest.take len.toNat
    if (crc32 (frameType :: len :: payload)).toNat = valueOf (rest.drop len.toNat) then
      parsePayload frameType payload
    else none
  | _ => none

/-! ### Sending (R184, R185) -/

/-- The code of an action (R184, R190). -/
def Action.code : Action → Nat
  | .halt => 0
  | .resume => 1
  | .echo => 2

/-- A lane frame on the line: start byte, type, length, payload, CRC-32 (R184, R185). -/
def laneFrameBytes (frameType : Byte) (payload : List Byte) : List Byte :=
  let body := frameType :: bytesOf 1 payload.length ++ payload
  0xA5 :: body ++ bytesOf 4 (crc32 body).toNat

/-- A command frame on the line (R36, R184). -/
def CommandFrame.bytes (f : CommandFrame) : List Byte :=
  laneFrameBytes 0x81 (bytesOf 2 f.station ++ [f.tag] ++ bytesOf 1 f.action.code)

/-- A measurement payload, as a station sends it (R184). -/
def Record.payload (r : Record) : List Byte :=
  bytesOf 2 r.station.toNat ++ bytesOf 4 r.second.toNat ++ bytesOf 4 r.fraction.toNat
    ++ bytesOf 1 (r.quality.toNat * 16 + r.phasors.length) ++ bytesOf 1 r.analogs.length
    ++ bytesOf 2 r.status.toNat ++ bytesOf 2 r.freqDev.toNat ++ bytesOf 2 r.rocof.toNat
    ++ r.phasors.flatMap (fun p => bytesOf 4 p.magnitude.toNat ++ bytesOf 2 p.angle.toNat)
    ++ r.analogs.flatMap fun v => bytesOf 4 v.toNat

/-- An acknowledgment payload, as a station sends it (R184). -/
def Ack.payload (a : Ack) : List Byte :=
  bytesOf 2 a.station.toNat ++ [a.tag] ++ [if a.result = .done then 0x00 else 0x01]

/-- A valid lane frame, as a station sends it (R184). -/
def LaneContent.bytes : LaneContent → List Byte
  | .measurement r => laneFrameBytes 0x01 r.payload
  | .acknowledgment a => laneFrameBytes 0x02 a.payload

/-! ### Arrivals (R25 to R27) -/

/-- A discarded frame (R25). -/
def State.discardLaneFrame (s : State) (l : LaneId) : State :=
  (s.updLane l fun q => { q with discardCount := q.discardCount + 1 }).latchAll .laneEvent

/-- A sign of life: the silence timer started, the last valid frame time, the lane UP, the valid count (R26, R38). -/
def Lane.signOfLife (now : Nat) (q : Lane) : Lane :=
  { q with
    up := true
    silenceTimer := some (now + laneSilenceTime)
    lastValid := some now
    validCount := q.validCount + 1 }

/-- A queue item joins a lane queue, or is dropped and counted when 32 items are queued (R27, R38). -/
def Lane.enqueue (item : QueueItem) (q : Lane) : Lane :=
  if q.queue.length < laneQueueLimit then
    { q with queue := q.queue ++ [item], deepest := max q.deepest (q.queue.length + 1) }
  else { q with overflowCount := q.overflowCount + 1 }

/-- Whether a valid frame on a lane latches LANE_EVENT: the lane was DOWN, or its queue is full (R26, R27, R40). -/
def Lane.eventAtFrame (q : Lane) : Bool := !q.up || decide (laneQueueLimit ≤ q.queue.length)

/-- A valid frame on a lane (R26, R27). -/
def State.validLaneFrame (s : State) (l : LaneId) (c : LaneContent) : State :=
  let item : QueueItem :=
    { content := c
      lane := l
      arrivalLocal := s.timebase.localTime
      arrivalElapsed := s.timebase.elapsed }
  let s1 := s.updLane l fun q => (q.signOfLife s.timebase.elapsed).enqueue item
  if s.lanes[l].eventAtFrame then s1.latchAll .laneEvent else s1

/-- An arrival at a lane (R24). -/
def State.laneArrival (s : State) (l : LaneId) : Arrival → State
  | .nothing => s
  | .brokenOff => s.discardLaneFrame l
  | .whole bytes =>
    match checkLaneFrame bytes with
    | some c => s.validLaneFrame l c
    | none => s.discardLaneFrame l

/-- One event on a lane. -/
def State.laneEvent (s : State) (l : LaneId) (e : LineEvent) : State :=
  let r := laneReceive s.timebase.elapsed s.lanes[l].rx e
  (s.updLane l fun q => { q with rx := r.1 }).laneArrival l r.2

/-- Characters reach a lane's receiver, behind the gap that elapsed time has made (R185). -/
def State.laneLine (s : State) (l : LaneId) (line : List LineEvent) : State :=
  (s.lanes[l].rx.sees laneGapTime s.timebase.elapsed line).foldl (fun s e => s.laneEvent l e) s

/-- LANE_FRAME_ARRIVAL: a frame that a gap has broken off arrives, and the characters reach the receiver one by one (R24,
R185). -/
def execLaneFrameArrival (l : LaneId) (line : List LineEvent) (s : State) :
    Host.Outcome State Fault Refusal :=
  .next (s.whileOperating fun s => s.laneLine l line)

/-- The silence timer of a lane expires (R26). -/
def State.laneSilence (s : State) (l : LaneId) : State :=
  if s.timerDue s.lanes[l].silenceTimer then
    (s.updLane l fun q => { q with up := false, silenceTimer := none }).latchAll .laneEvent
  else s

/-- LANE_SILENCE_TIMER_EXPIRY (R26). -/
def execLaneSilenceTimerExpiry (l : LaneId) (s : State) : Host.Outcome State Fault Refusal :=
  .next (s.whileOperating fun s => s.laneSilence l)

/-- The transmission of the first command frame ends: it leaves the queue, the sent count rises (R29). -/
def Lane.frameSent (q : Lane) : Lane :=
  match q.outbound with
  | [] => q
  | f :: rest => { q with outbound := rest, sentCount := q.sentCount + 1, lastSent := some f.bytes }

/-- COMMAND_FRAME_SENT (R29). -/
def execCommandFrameSent (l : LaneId) (s : State) : Host.Outcome State Fault Refusal :=
  .next (s.whileOperating fun s => s.updLane l Lane.frameSent)

/-! ### The intake arbiter (R30 to R32) -/

/-- The first non-empty lane queue in round-robin order from a position, with its head and its rest (R30). -/
def State.nextItem (s : State) : Option (LaneId × QueueItem × List QueueItem) :=
  let p := s.arbiter.position
  [p, p + 1, p + 2, p + 3].findSome? fun l =>
    match s.lanes[l].queue with
    | [] => none
    | item :: rest => some (l, item, rest)

/-- The arbiter hands an item to its handler (R31, R32): an acknowledgment to the relay; a measurement to the placement
unit, unless the device is not ALIGNING or the arrival local time is absent. -/
def State.routeItem (s : State) (item : QueueItem) : State :=
  match item.content with
  | .acknowledgment a => s.acknowledge a item.arrivalElapsed
  | .measurement r =>
    match s.device, item.arrivalLocal with
    | .aligning, some arrival => s.applyPlacement (s.place item arrival r)
    | _, _ => s

/-- The head item of a lane queue is removed and the position set to the lane after it (R30). -/
def State.dequeue (s : State) (l : LaneId) (rest : List QueueItem) : State :=
  { s with
    lanes := update s.lanes l fun q => { q with queue := rest }
    arbiter := { s.arbiter with position := l + 1 } }

/-- The arbiter takes an item when it is idle and some queue is non-empty (R30). -/
def State.arbiterTake (s : State) : State :=
  match s.arbiter.handling, s.nextItem with
  | none, some n => (s.dequeue n.1 n.2.2).routeItem n.2.1
  | _, _ => s

/-- ARBITER_TAKE (R30, R41, R139). -/
def execArbiterTake (s : State) : Host.Outcome State Fault Refusal := .next (s.whileOperating State.arbiterTake)

/-- Whether an outcome of the table is an acceptance (R58). -/
def TakeOutcome.accepted : TakeOutcome → Bool
  | .stored => true
  | .storedLate => true
  | _ => false

/-- The table takes the record the placement unit waits with: its outcome, the acceptance it calls for, and the end of
the item's handling (R58, R71).  The acceptance is taken after the presence reports of the cuts that the storing releases,
and of those that a deadline already past at an opening issues; R100 allows either order (notes/assumptions/11.md). -/
def State.tableTake (s : State) : State :=
  match s.arbiter.handling with
  | none => s
  | some r =>
    let t := s.takeRecord r
    let s1 :=
      if t.2.accepted && r.supervised then t.1.acceptance r.stream r.latency r.lane r.arrivalElapsed else t.1
    { s1 with arbiter := { s1.arbiter with handling := none } }

/-- TABLE_TAKE_RECORD (R71). -/
def execTableTakeRecord (s : State) : Host.Outcome State Fault Refusal := .next (s.whileOperating State.tableTake)

/-! ### Stream timers and command timeouts -/

/-- STREAM_SILENCE_TIMER_EXPIRY (R93). -/
def execStreamSilenceTimerExpiry (i : StreamId) (s : State) : Host.Outcome State Fault Refusal :=
  .next (s.whileOperating fun s =>
    if s.timerDue s.supervisor.streams[i].silenceTimer then s.updStream i StreamRecord.expireSilence else s)

/-- QUIET_TIMER_EXPIRY (R95). -/
def execQuietTimerExpiry (i : StreamId) (s : State) : Host.Outcome State Fault Refusal :=
  .next (s.whileOperating fun s =>
    if s.timerDue s.supervisor.streams[i].quietTimer then s.updStream i StreamRecord.forgetFaults else s)

/-- COMMAND_TIMEOUT (R142). -/
def execCommandTimeout (i : StreamId) (s : State) : Host.Outcome State Fault Refusal :=
  .next (s.whileOperating fun s =>
    match s.relay.slots[i] with
    | some c => if s.timerDue (some c.timeout) then s.timeOutCommand i c else s
    | none => s)

end Sys2Proof.Machine
end

