-- ==== Sys2Proof/Machine/Operands.lean ====
section
/-! DEFINITION. The operands of requests: the enumerated argument bytes (R190), sets of kinds and of stream indices
(R153, R160, R189), and the decoding of a good frame into the command it asks for (R188, R189), with the encoding a
consumer uses. -/

namespace Sys2Proof.Machine

/-! ### Enumerated arguments (R190): a byte that names nothing decodes to none -/

/-- An action (R190). -/
def decodeAction (b : Byte) : Option Action :=
  if b = 0 then some .halt else if b = 1 then some .resume else if b = 2 then some .echo else none

/-- A read selector (R190). -/
def decodeSelector (b : Byte) : Option Selector :=
  if b = 0 then some .active else if b = 1 then some .standby else none

/-- An advance mode (R190). -/
def decodeAdvance (b : Byte) : Option Advance :=
  if b = 0 then some .none else if b = 1 then some .afterEach else if b = 2 then some .afterPut else none

/-- A snapshot kind (R190). -/
def decodeSnapKind (b : Byte) : Option SnapKind :=
  if b = 0 then some .fast else if b = 1 then some .full else none

/-- Subscription kinds, as whether FAST and whether FULL is subscribed (R190). -/
def decodeSubscription (b : Byte) : Option (Bool × Bool) :=
  if b = 0 then some (false, false)
  else if b = 1 then some (true, false)
  else if b = 2 then some (false, true)
  else if b = 3 then some (true, true)
  else none

/-- A start mode, true for FROM_OLDEST (R190). -/
def decodeFromOldest (b : Byte) : Option Bool :=
  if b = 0 then some false else if b = 1 then some true else none

/-- A stream index, 0..47 (R97, R110, R136). -/
def decodeStream (b : Byte) : Option StreamId := if h : b.toNat < 48 then some ⟨b.toNat, h⟩ else none

/-! ### Sets -/

/-- Whether no byte of a list is named twice. -/
def noRepeat : List Byte → Bool
  | [] => true
  | b :: bs => !bs.contains b && noRepeat bs

/-- The set of the kinds whose codes stand in a list. -/
def kindSetOf (codes : List Byte) : KindSet := codes.foldl (fun s c => s ||| kindBit c.toNat) 0

/-- The mask that SET MASK carries: a count of at most 15 and that many codes, each naming a kind and none twice
(R153, R189). -/
def decodeMask (count : Byte) (kinds : List Byte) : Option KindSet :=
  let used := kinds.take count.toNat
  if count.toNat ≤ 15 && used.all (fun c => decide (c.toNat < 15)) && noRepeat used then some (kindSetOf used)
  else none

/-- The stream filter that SUBSCRIBE carries: a count of at most 48 and that many indices, each in 0..47 and none twice
(R160, R189); given as the indices in increasing order. -/
def decodeFilter (count : Byte) (indices : List Byte) : Option (List StreamId) :=
  let used := indices.take count.toNat
  if count.toNat ≤ 48 && used.all (fun c => decide (c.toNat < 48)) && noRepeat used then
    some (allStreams.filter fun i => used.contains (BitVec.ofNat 8 i.val))
  else none

/-! ### Requests (R188, R189) -/

/-- The 32-bit values of a PROFILE PUT payload (R188). -/
def words : List Byte → List Word
  | a :: b :: c :: d :: rest => BitVec.ofNat 32 (valueOf [a, b, c, d]) :: words rest
  | _ => []

/-- The byte of a payload at an offset. -/
def byteAt (payload : List Byte) (k : Nat) : Byte := payload.getD k 0

/-- Whether a payload length is the one a request code calls for (R188, R189); false for a code that names no request. -/
def lengthFits (code : Byte) (n : Nat) : Bool :=
  match code.toNat with
  | 0x01 => n == 0
  | 0x02 => n == 0
  | 0x03 => n == 16
  | 0x04 => n == 51
  | 0x05 => n == 8
  | 0x06 => n == 0
  | 0x07 => n == 1
  | 0x08 => n == 0
  | 0x09 => n == 0
  | 0x0A => n == 4
  | 0x0B => n == 1
  | 0x0C => decide (4 ≤ n) && decide (n ≤ 256) && n % 4 == 0
  | 0x0D => n == 0
  | 0x0E => n == 0
  | 0x0F => n == 5
  | 0x10 => n == 0
  | 0x11 => n == 2
  | 0x12 => n == 1
  | 0x13 => n == 0
  | 0x14 => n == 0
  | 0x15 => n == 0
  | _ => false

/-- The command a request code and a payload of its length ask for (R188). -/
def requestOf (p : PortId) (tag code : Byte) (payload : List Byte) : Option Instr :=
  match code.toNat with
  | 0x01 => some (.status p tag)
  | 0x02 => some (.readConditions p tag)
  | 0x03 => some (.setMask p tag (byteAt payload 0) (payload.drop 1))
  | 0x04 =>
    some (.subscribe p tag (byteAt payload 0) (byteAt payload 1) (byteAt payload 2) (payload.drop 3))
  | 0x05 =>
    if byteAt payload 1 = 0 then
      some (.readSnapshotNext p tag (byteAt payload 0) (BitVec.ofNat 48 (field payload 2 6)))
    else
      some (.readSnapshotSequence p tag (byteAt payload 0) (byteAt payload 1) (BitVec.ofNat 48 (field payload 2 6)))
  | 0x06 => some (.readRosterState p tag)
  | 0x07 => some (.readStreamDetail p tag (byteAt payload 0))
  | 0x08 => some (.readWorstLatency p tag)
  | 0x09 => some (.readLanes p tag)
  | 0x0A =>
    some (.profileCursor p tag (byteAt payload 0) (BitVec.ofNat 16 (field payload 1 2)) (byteAt payload 3))
  | 0x0B => some (.profileGet p tag (byteAt payload 0))
  | 0x0C => some (.profilePut p tag (words payload))
  | 0x0D => some (.beginEdit p tag)
  | 0x0E => some (.abandonEdit p tag)
  | 0x0F =>
    if byteAt payload 0 = 0 then some (.commitSwitchNow p tag (BitVec.ofNat 32 (field payload 1 4)))
    else some (.commitSwitchAtSecond p tag (byteAt payload 0) (BitVec.ofNat 32 (field payload 1 4)))
  | 0x10 => some (.cancelSwitch p tag)
  | 0x11 => some (.streamCommand p tag (byteAt payload 0) (byteAt payload 1))
  | 0x12 => some (.releaseStream p tag (byteAt payload 0))
  | 0x13 => some (.acceptReference p tag)
  | 0x14 => some (.clearAlignment p tag)
  | 0x15 => some (.portReset p tag)
  | _ => none

/-- The command a good frame asks for; none is MALFORMED: the code names no request, or the payload length is not the
one it calls for (R149, R189). -/
def decodeRequest (p : PortId) (tag code : Byte) (payload : List Byte) : Option Instr :=
  if lengthFits code payload.length then requestOf p tag code payload else none

/-- The port, the tag, the code and the payload of a request, as a consumer sends it (R188); none for the commands that
are not requests. -/
def encodeRequest : Instr → Option (PortId × Byte × Byte × List Byte)
  | .powerOn => none
  | .resetLine => none
  | .resetLineRelease => none
  | .timeMessage _ => none
  | .ppsEdge => none
  | .ppsLossTimerExpiry => none
  | .holdoverLimitExpiry => none
  | .slewEnd => none
  | .pauseEnd => none
  | .secondBoundary => none
  | .epochBoundary => none
  | .fastDeadlineExpiry _ => none
  | .fullDeadlineExpiry _ => none
  | .drainingEnd => none
  | .laneFrameArrival _ _ => none
  | .laneSilenceTimerExpiry _ => none
  | .commandFrameSent _ => none
  | .arbiterTake => none
  | .tableTakeRecord => none
  | .commandTimeout _ => none
  | .streamSilenceTimerExpiry _ => none
  | .quietTimerExpiry _ => none
  | .claimTimerExpiry => none
  | .requestFrameArrival _ _ => none
  | .responseSent _ => none
  | .status p tag => some (p, tag, 0x01, [])
  | .readConditions p tag => some (p, tag, 0x02, [])
  | .setMask p tag count kinds => some (p, tag, 0x03, count :: kinds)
  | .subscribe p tag kinds start count indices => some (p, tag, 0x04, kinds :: start :: count :: indices)
  | .readSnapshotNext p tag kind unused => some (p, tag, 0x05, kind :: 0 :: bytesOf 6 unused.toNat)
  | .readSnapshotSequence p tag kind target seq => some (p, tag, 0x05, kind :: target :: bytesOf 6 seq.toNat)
  | .readRosterState p tag => some (p, tag, 0x06, [])
  | .readStreamDetail p tag index => some (p, tag, 0x07, [index])
  | .readWorstLatency p tag => some (p, tag, 0x08, [])
  | .readLanes p tag => some (p, tag, 0x09, [])
  | .profileCursor p tag selector address mode =>
    some (p, tag, 0x0A, selector :: bytesOf 2 address.toNat ++ [mode])
  | .profileGet p tag count => some (p, tag, 0x0B, [count])
  | .profilePut p tag values => some (p, tag, 0x0C, values.flatMap fun v => bytesOf 4 v.toNat)
  | .beginEdit p tag => some (p, tag, 0x0D, [])
  | .abandonEdit p tag => some (p, tag, 0x0E, [])
  | .commitSwitchAtSecond p tag mode second => some (p, tag, 0x0F, mode :: bytesOf 4 second.toNat)
  | .commitSwitchNow p tag ignored => some (p, tag, 0x0F, 0 :: bytesOf 4 ignored.toNat)
  | .cancelSwitch p tag => some (p, tag, 0x10, [])
  | .streamCommand p tag index action => some (p, tag, 0x11, [index, action])
  | .releaseStream p tag index => some (p, tag, 0x12, [index])
  | .acceptReference p tag => some (p, tag, 0x13, [])
  | .clearAlignment p tag => some (p, tag, 0x14, [])
  | .portReset p tag => some (p, tag, 0x15, [])
  | .supplyBelowLimit => none
  | .powerOnExit => none

/-- A consumer frame on the line: preamble, tag, code, length, payload, CRC-16 (R188). -/
def consumerFrameBytes (tag code : Byte) (payload : List Byte) : List Byte :=
  let body := tag :: code :: bytesOf 2 payload.length ++ payload
  0x5A :: body ++ bytesOf 2 (crc16 body).toNat

end Sys2Proof.Machine
end

