-- ==== Sys2Proof/Machine/Profiles.lean ====
section
/-! DEFINITION. The profile store: the cursor, the edit claim, commit, activation and draining (R114 to R134), as what
the store answers to each request, with the meanings of its timer and of the table's report. -/

namespace Sys2Proof.Machine

/-- A response that carries no result (R151). -/
def Reply.bare (c : Code) : Reply := { code := c, result := .empty }

/-- An OK response (R151). -/
def Reply.ok (r : Result) : Reply := { code := .ok, result := r }

/-! ### The claim (R122 to R124) -/

/-- Whether a port holds the edit claim. -/
def State.holds (s : State) (p : PortId) : Bool :=
  match s.store.claim with
  | some c => c.holder == p
  | none => false

/-- The claim, or none. -/
def State.setClaim (s : State) (c : Option Claim) : State := { s with store := { s.store with claim := c } }

/-- The claim taken or renewed by a port: its timer runs to 10 s from now (R122, R123). -/
def State.startClaim (s : State) (p : PortId) : State :=
  s.setClaim (some { holder := p, expires := s.after claimTime })

/-- The claim timer started again when the port is the holder (R123). -/
def State.renewClaim (s : State) (p : PortId) : State := if s.holds p then s.startClaim p else s

/-- BEGIN EDIT at the store (R122). -/
def State.beginEdit (s : State) (p : PortId) : State × Reply :=
  match s.store.claim with
  | some c => if c.holder = p then (s.startClaim p, .bare .ok) else (s, .bare .held)
  | none =>
    if s.store.pendingSwitch.isSome || s.store.draining.isSome then (s, .bare .state)
    else (s.startClaim p, .bare .ok)

/-- ABANDON EDIT at the store (R124). -/
def State.abandonEdit (s : State) (p : PortId) : State × Reply :=
  if s.holds p then (s.setClaim none, .bare .ok) else (s, .bare .notHolder)

/-- The claim timer expires: the claim lapses and CLAIM_LOST is latched in the holder's port (R123). -/
def State.claimExpiry (s : State) : State :=
  match s.store.claim with
  | some c => if s.timerDue (some c.expires) then (s.setClaim none).latchIn c.holder .claimLost else s
  | none => s

/-- CLAIM_TIMER_EXPIRY (R123). -/
def execClaimTimerExpiry (s : State) : Host.Outcome State Fault Refusal :=
  .next (s.whileOperating State.claimExpiry)

/-! ### The profile cursor (R118 to R121) -/

/-- A port's profile cursor replaced. -/
def State.setCursor (s : State) (p : PortId) (c : ProfileCursor) : State :=
  s.updPort p fun q => { q with cursor := c }

/-- PROFILE CURSOR at the port and the store (R118, R123). -/
def State.profileCursor (s : State) (p : PortId) (selector : Byte) (address : BitVec 16) (mode : Byte) :
    State × Reply :=
  match decodeSelector selector, decodeAdvance mode with
  | some sel, some adv =>
    let c : ProfileCursor := { selector := sel, address := address.toNat, mode := adv }
    ((s.renewClaim p).setCursor p c, .ok (.cursor c))
  | _, _ => (s.renewClaim p, .bare .invalid)

/-- The cursor after a run of `n` items, when its mode advances it (R121). -/
def ProfileCursor.afterRun (c : ProfileCursor) (n : Nat) (advances : Bool) : ProfileCursor :=
  if advances then { c with address := addressAfter (c.address + n - 1) } else c

/-- The bank that a cursor's selector reads; none for ACTIVE while no bank is active (R119). -/
def ProfileStore.selected (ps : ProfileStore) : Selector → Option Bank
  | .active => ps.activeBank
  | .standby => some (ps.bank ps.standby)

/-- PROFILE GET at the store (R119, R121, R123). -/
def State.profileGet (s : State) (p : PortId) (count : Byte) : State × Reply :=
  let c := s.ports[p].cursor
  let s1 := s.renewClaim p
  if count.toNat < 1 ∨ profileRunLimit < count.toNat then (s1, .bare .invalid)
  else
    match s.store.selected c.selector with
    | none => (s1, .bare .state)
    | some b =>
      match b.readRun c.address count.toNat with
      | none => (s1, .bare .invalid)
      | some vs =>
        let c1 := c.afterRun count.toNat (c.mode == .afterEach)
        (s1.setCursor p c1, .ok (.items vs c1))

/-- The standby bank replaced. -/
def State.setStandby (s : State) (b : Bank) : State :=
  { s with store := { s.store with banks := update s.store.banks s.store.standby fun _ => b } }

/-- PROFILE PUT at the store (R120, R121, R123). -/
def State.profilePut (s : State) (p : PortId) (values : List Word) : State × Reply :=
  if s.holds p then
    let c := s.ports[p].cursor
    let s1 := s.startClaim p
    match (s.store.bank s.store.standby).writeRun c.address values with
    | none => (s1, .bare .invalid)
    | some b =>
      let c1 := c.afterRun values.length (c.mode != .none)
      ((s1.setStandby b).setCursor p c1, .ok (.cursor c1))
  else (s, .bare .notHolder)

/-! ### Activation (R108, R129, R131) -/

/-- The other bank. -/
def otherBank (b : BankId) : BankId := if b = 0 then 1 else 0

/-- The standby bank becomes active and the generation advances; the supervisor takes the activation and
PROFILE_SWITCHED is latched in all three ports (R129, R131). -/
def State.activate (s : State) (lastSwitch : Option Nat) (draining : Option Draining) : State :=
  let old := s.store.activeBank
  let a := s.store.standby
  let s1 :=
    { s with
      store :=
        { s.store with
          active := some a
          standby := otherBank a
          generation := s.store.generation + 1
          lastSwitch := lastSwitch
          pendingSwitch := none
          draining := draining } }
  (s1.supervisorActivation old a).latchAll .profileSwitched

/-- The draining that begins with an activation at switch second `S`: none when the table holds no non-CLOSED slot of the
generation that was active (R131). -/
def State.drainingAt (s : State) (S : Nat) : Option Draining :=
  if s.table.nonClosed s.store.generation = 0 then none
  else some { generation := s.store.generation, second := S }

/-- The profile store takes the second-boundary event for second `x`: a pending switch whose second has come is activated
(R131). -/
def State.storeSecond (s : State) (x : Nat) : State :=
  match s.store.pendingSwitch with
  | some S => if S ≤ x then s.activate (some S) (s.drainingAt S) else s
  | none => s

/-- The table's report that the draining generation has no non-CLOSED slot left ends draining (R84, R132). -/
def State.endDraining (s : State) : State :=
  match s.store.draining with
  | some d =>
    if s.table.nonClosed d.generation = 0 then { s with store := { s.store with draining := none } } else s
  | none => s

/-- DRAINING_END (R132). -/
def execDrainingEnd (s : State) : Host.Outcome State Fault Refusal := .next (s.whileOperating State.endDraining)

/-! ### Commit (R125 to R130) -/

/-- Whether a switch second lies in current second + 2 .. current second + 3600, and within the era (R125). -/
def switchSecondFits (now S : Nat) : Bool :=
  decide (now + 2 ≤ S) && decide (S ≤ now + 3600) && decide (S ≤ lastSecond)

/-- The alignment table at an entry into ALIGNING by COMMIT SWITCH NOW with local time set: the current epoch is declared
passed and the timebase's mark is handed on (R20, R63). -/
def State.enterAligningNow (s : State) : State :=
  match s.currentEpoch with
  | some c => { s with table := { s.table with horizon := some c, mark := true } }
  | none => s

/-- A refused commit keeps the claim and restarts its timer (R123, R125). -/
def State.refuseCommit (s : State) (p : PortId) (r : Reply) : State × Reply := (s.startClaim p, r)

/-- COMMIT SWITCH in NOW mode at the store (R125, R129). -/
def State.commitNow (s : State) (p : PortId) : State × Reply :=
  if s.holds p = false then (s, .bare .notHolder)
  else if s.store.active.isSome then s.refuseCommit p (.bare .state)
  else
    match (s.store.bank s.store.standby).failing with
    | some a => s.refuseCommit p { code := .refused, result := .failing a }
    | none => (((s.setClaim none).activate none none).enterAligningNow, .bare .ok)

/-- COMMIT SWITCH with another mode byte at the store: AT_SECOND is 1, and any other byte names no mode (R125, R128,
R190). -/
def State.commitAtSecond (s : State) (p : PortId) (mode : Byte) (S : Nat) : State × Reply :=
  if s.holds p = false then (s, .bare .notHolder)
  else if mode ≠ 1 then s.refuseCommit p (.bare .invalid)
  else if s.store.active = none then s.refuseCommit p (.bare .state)
  else
    match s.timebase.localTime with
    | none => s.refuseCommit p (.bare .state)
    | some t =>
      if switchSecondFits t.second S = false then s.refuseCommit p (.bare .invalid)
      else
        match (s.store.bank s.store.standby).failing with
        | some a => s.refuseCommit p { code := .refused, result := .failing a }
        | none =>
          ({ s with store := { s.store with claim := none, pendingSwitch := some S } }, .bare .ok)

/-- CANCEL SWITCH at the store (R130). -/
def State.cancelSwitch (s : State) : State × Reply :=
  if s.store.pendingSwitch.isSome then
    ({ s with store := { s.store with pendingSwitch := none } }, .bare .ok)
  else (s, .bare .state)

end Sys2Proof.Machine
end

