-- ==== Sys2Proof/Machine/Reference.lean ====
section
/-! DEFINITION. The timebase: the time message, the PPS and its corrections, its timers, the boundary events and the
passing of one oscillator period (R1 to R23, R186, R187). -/

namespace Sys2Proof.Machine

/-! ### The time message (R6, R186, R187) -/

/-- The receiver of the timing serial line takes an event at the elapsed time `now`: it hunts for the start byte and
gathers the seven bytes that follow; a wrong stop bit or a long gap discards the message (R187). -/
def timeReceive (now : Nat) (rx : Rx) (e : LineEvent) : Rx × Arrival :=
  match rx, e with
  | .hunting, .byte b => if b = 0xC3 then (.receiving [] now, .nothing) else (.hunting, .nothing)
  | .hunting, _ => (.hunting, .nothing)
  | .receiving got _, .byte b =>
    if got.length + 1 = 7 then (.hunting, .whole (got ++ [b])) else (.receiving (got ++ [b]) now, .nothing)
  | .receiving _ _, _ => (.hunting, .brokenOff)

/-- The message that the seven bytes after the start byte carry, when their check value agrees (R186, R187). -/
def checkTimeMessage (bytes : List Byte) : Option TimeMessage :=
  if (crc16 (bytes.take 5)).toNat = valueOf (bytes.drop 5) then
    some { marked := field bytes 0 4, valid := field bytes 4 1 % 2 == 1 }
  else none

/-- A time message on the line, as the timing receiver sends it (R186, R187). -/
def TimeMessage.bytes (m : TimeMessage) : List Byte :=
  let body := bytesOf 4 m.marked ++ [if m.valid then 0x01 else 0x00]
  0xC3 :: body ++ bytesOf 2 (crc16 body).toNat

/-- The timebase keeps a message received (R6). -/
def State.keepMessage (s : State) (m : TimeMessage) : State :=
  { s with timebase := { s.timebase with latest := some m, messageSincePps := true } }

/-- An arrival on the timing serial line; a discarded message has no effect (R6). -/
def State.timeArrival (s : State) : Arrival → State
  | .whole bytes =>
    match checkTimeMessage bytes with
    | some m => s.keepMessage m
    | none => s
  | _ => s

/-- One event on the timing serial line. -/
def State.timeEvent (s : State) (e : LineEvent) : State :=
  let r := timeReceive s.timebase.elapsed s.timebase.rx e
  ({ s with timebase := { s.timebase with rx := r.1 } }).timeArrival r.2

/-- Characters reach the timing serial line's receiver, behind the gap that elapsed time has made (R187). -/
def State.timeLine (s : State) (line : List LineEvent) : State :=
  (s.timebase.rx.sees timeGapTime s.timebase.elapsed line).foldl State.timeEvent s

/-- TIME_MESSAGE (R6, R187). -/
def execTimeMessage (line : List LineEvent) (s : State) : Host.Outcome State Fault Refusal :=
  .next (s.whileOperating fun s => s.timeLine line)

/-! ### Boundary events (R17, R18) -/

/-- The second-boundary event for second `x`: the supervisor's work and then the store's, an order R104 leaves open
(notes/assumptions/9.md). -/
def State.takeSecond (s : State) (x : Nat) : State :=
  let s1 := (s.supervisorSecond x).storeSecond x
  { s1 with timebase := { s1.timebase with lastSecondEvent := some x } }

/-- The second-boundary event that local time has reached, if it has not been raised (R17). -/
def State.takeDueSecond (s : State) : State :=
  match s.secondDue with
  | some x => s.takeSecond x
  | none => s

/-- SECOND_BOUNDARY (R17). -/
def execSecondBoundary (s : State) : Host.Outcome State Fault Refusal := .next (s.whileOperating State.takeDueSecond)

/-- EPOCH_BOUNDARY (R18, R64): no epoch-boundary event falls during a pause. -/
def execEpochBoundary (s : State) : Host.Outcome State Fault Refusal :=
  .next (s.whileOperating fun s => if s.timebase.correction.isPause then s else s.epochBoundary)

/-- FAST_DEADLINE_EXPIRY (R78). -/
def execFastDeadlineExpiry (e : EpochKey) (s : State) : Host.Outcome State Fault Refusal :=
  .next (s.whileOperating fun s => s.fastDeadline e)

/-- FULL_DEADLINE_EXPIRY (R78). -/
def execFullDeadlineExpiry (e : EpochKey) (s : State) : Host.Outcome State Fault Refusal :=
  .next (s.whileOperating fun s => s.fullDeadline e)

/-! ### The PPS (R7 to R16) -/

/-- The announced second of the previous taken PPS, plus 1 (R7); past the era the value is open
(notes/assumptions/6.md). -/
def secondPlusOne (x : Nat) : Nat := if x < lastSecond then x + 1 else Config.announcedAfterEra.toNat

/-- The announced second of a PPS, and the receiver-valid flag that judges it; none for a PPS that is ignored, because
no message has been received since reset (R7). -/
def Timebase.announced (tb : Timebase) : Option (Nat × Bool) :=
  match tb.latest with
  | none => none
  | some m =>
    if tb.messageSincePps then some (m.marked, m.valid)
    else tb.prevSecond.map fun x => (secondPlusOne x, m.valid)

/-- The error e in ns: the announced second minus local time as it stands (R9). -/
def ppsError (x : Nat) (t : LocalTime) : Int := ((x * nsPerSecond : Nat) : Int) - (t.toNs : Int)

/-- LOCKED entered or kept: the loss timer started, the holdover limit stopped, the rejected error absent (R5, R9,
R14). -/
def State.lock (s : State) : State :=
  let s1 := s.enterTimeState .locked
  { s1 with
    timebase :=
      { s1.timebase with
        lossTimer := some (s.after ppsLossTime)
        holdoverTimer := none
        rejectedError := none } }

/-- Local time set by a PPS to (x, 0). -/
def State.setLocal (s : State) (x : Nat) : State :=
  { s with timebase := { s.timebase with localTime := some (.ofSecond x) } }

/-- The correction in progress replaced. -/
def State.setCorrection (s : State) (c : Correction) : State :=
  { s with timebase := { s.timebase with correction := c } }

/-- A valid PPS applied in UNSET (R8): local time set, LOCKED, and, when the device becomes ALIGNING, the mark handed on
(R20); then the boundary events of (x, 0). -/
def State.applyUnset (s : State) (x : Nat) : State :=
  let s1 := (s.setLocal x).lock
  let s2 := if s1.store.active.isSome then s1.handMark else s1
  (s2.takeSecond x).epochBoundary

/-- A step to (x, 0) (R11): the boundary events that local time had already reached are taken first, a slot they open
without the step's mark (notes/assumptions/12.md); then DISCONTINUITY and the mark, the deadlines passed in epoch order
(R3, R79), and the boundary events of the new local time (R17, R18). -/
def State.stepTo (s : State) (x : Nat) : State :=
  ((((s.takeDueSecond.epochBoundary).setLocal x).raiseDiscontinuity.expireAll).takeSecond x).epochBoundary

/-- A pause of `p` ns begun by a PPS (R12): a pause that replaces one in progress gives no new notice. -/
def State.beginPause (s : State) (p : Nat) (wasPaused : Bool) : State :=
  let s1 := s.setCorrection (.pause (s.after (p / 10)))
  if wasPaused then s1 else s1.raiseDiscontinuity

/-- The correction of an error e, whatever its size: a slew, a step to (x, 0) or a pause (R9, R16). -/
def State.correct (s : State) (x : Nat) (e : Int) (wasPaused : Bool) : State :=
  if e = 0 then s
  else if (e.natAbs : Int) ≤ slewLimit then s.setCorrection (.slew e s.timebase.elapsed)
  else if 0 < e then s.stepTo x
  else s.beginPause e.natAbs wasPaused

/-- Acceptance after a PPS applied under it (R16). -/
def Acceptance.afterPps (a : Acceptance) (e : Int) : Acceptance :=
  match a with
  | .none => .none
  | _ => if e < -correctionLimit then .held else .none

/-- A valid PPS rejected: free-running, the rejected error set, both timers stopped (R9, R14). -/
def State.reject (s : State) (e : Int) : State :=
  let s1 := s.enterTimeState .rejected
  { s1 with
    timebase := { s1.timebase with rejectedError := some e, lossTimer := none, holdoverTimer := none } }

/-- Acceptance once a PPS of error `e` has been applied (R16). -/
def State.settleAcceptance (s : State) (e : Int) : State :=
  { s with timebase := { s.timebase with acceptance := s.timebase.acceptance.afterPps e } }

/-- A valid PPS of error `e` applied with local time set (R9, R13, R16): what remains of a correction is cancelled, and
the error corrected, or rejected when it exceeds 2 s without acceptance.  The change of state comes before a step, so a
slot that the step opens at a boundary of the old local time has the class of LOCKED (notes/assumptions/12.md). -/
def State.applyError (s : State) (x : Nat) (e : Int) : State :=
  if correctionLimit < (e.natAbs : Int) ∧ s.timebase.acceptance = .none then (s.setCorrection .none).reject e
  else (((s.setCorrection .none).lock).settleAcceptance e).correct x e s.timebase.correction.isPause

/-- A valid PPS applied with local time set at `t`: its error is measured and handled (R9). -/
def State.applyPps (s : State) (x : Nat) (t : LocalTime) : State := s.applyError x (ppsError x t)

/-- The record the timebase keeps of a taken PPS (R7). -/
def State.notePps (s : State) (x : Nat) : State :=
  { s with timebase := { s.timebase with prevSecond := some x, messageSincePps := false } }

/-- A PPS edge (R7): ignored, taken as invalid, or applied. -/
def State.ppsEdge (s : State) : State :=
  match s.timebase.announced with
  | none => s
  | some a =>
    let s1 := s.notePps a.1
    if a.2 then
      match s.timebase.localTime with
      | none => s1.applyUnset a.1
      | some t => s1.applyPps a.1 t
    else s1

/-- PPS_EDGE (R7). -/
def execPpsEdge (s : State) : Host.Outcome State Fault Refusal := .next (s.whileOperating State.ppsEdge)

/-! ### Timers (R5, R10, R12, R16) -/

/-- The PPS loss timer expires: HOLDOVER, the holdover limit started, HELD acceptance NONE (R5, R16). -/
def State.ppsLoss (s : State) : State :=
  if s.timerDue s.timebase.lossTimer then
    let s1 := s.enterTimeState .holdover
    { s1 with
      timebase :=
        { s1.timebase with
          lossTimer := none
          holdoverTimer := some (s.after holdoverTime)
          acceptance := if s1.timebase.acceptance = Acceptance.held then .none else s1.timebase.acceptance } }
  else s

/-- PPS_LOSS_TIMER_EXPIRY (R5). -/
def execPpsLossTimerExpiry (s : State) : Host.Outcome State Fault Refusal := .next (s.whileOperating State.ppsLoss)

/-- The holdover limit expires: DRIFTING (R5). -/
def State.holdoverEnd (s : State) : State :=
  if s.timerDue s.timebase.holdoverTimer then
    let s1 := s.enterTimeState .drifting
    { s1 with timebase := { s1.timebase with holdoverTimer := none } }
  else s

/-- HOLDOVER_LIMIT_EXPIRY (R5). -/
def execHoldoverLimitExpiry (s : State) : Host.Outcome State Fault Refusal :=
  .next (s.whileOperating State.holdoverEnd)

/-- The elapsed time at which the slew in progress ends (R10). -/
def Correction.slewEnds : Correction → Option Nat
  | .slew _ start => some (start + slewTime)
  | _ => Option.none

/-- The elapsed time at which the pause in progress runs out (R12). -/
def Correction.pauseEnds : Correction → Option Nat
  | .pause ends => some ends
  | _ => Option.none

/-- The slew has applied its whole correction and ends (R10). -/
def State.slewEnd (s : State) : State :=
  if s.timerDue s.timebase.correction.slewEnds then s.setCorrection .none else s

/-- SLEW_END (R10). -/
def execSlewEnd (s : State) : Host.Outcome State Fault Refusal := .next (s.whileOperating State.slewEnd)

/-- The pause runs out: local time resumes, HELD acceptance becomes NONE (R12, R16), and the deadlines that local time
has reached expire (R3). -/
def State.pauseEnd (s : State) : State :=
  if s.timerDue s.timebase.correction.pauseEnds then
    let s1 := s.setCorrection .none
    ({ s1 with
      timebase :=
        { s1.timebase with
          acceptance := if s1.timebase.acceptance = Acceptance.held then .none else s1.timebase.acceptance } }).expireAll
  else s

/-- PAUSE_END (R12). -/
def execPauseEnd (s : State) : Host.Outcome State Fault Refusal := .next (s.whileOperating State.pauseEnd)

/-- ACCEPT REFERENCE at the timebase (R15). -/
def State.acceptReference (s : State) : State × Reply :=
  if s.timebase.state = .rejected then
    ({ s with timebase := { s.timebase with acceptance := .armed } }, .bare .ok)
  else (s, .bare .state)

/-! ### One oscillator period (R1, R2) -/

/-- The elapsed time one oscillator period later (R1); past the 64-bit count the value is open
(notes/assumptions/5.md). -/
def elapsedPlusOne (n : Nat) : Nat := if n + 1 < elapsedLimit then n + 1 else Config.elapsedAfterLimit.toNat

/-- Local time one oscillator period later, at the elapsed time `now` (R2, R10, R12). -/
def LocalTime.advance (t : LocalTime) (c : Correction) (now : Nat) : LocalTime := .ofNs (t.toNs + c.advance now)

/-- One oscillator period passes: elapsed time advances, and local time with it once it is set (R1, R2). -/
def State.tick (s : State) : State :=
  let now := elapsedPlusOne s.timebase.elapsed
  { s with
    timebase :=
      { s.timebase with
        elapsed := now
        localTime := s.timebase.localTime.map fun t => t.advance s.timebase.correction now } }

end Sys2Proof.Machine
end

