-- ==== Sys2Proof/Machine/Snapshots.lean ====
section
/-! DEFINITION. Subscriptions, cursors and reads: the views of a slot, and what READ SNAPSHOT and SUBSCRIBE answer
(R159 to R173). -/

namespace Sys2Proof.Machine

/-! ### The views of a slot (R167 to R170) -/

/-- Whether the view of a kind shows an entry: the fast view hides LATE entries (R167). -/
def SnapKind.shows (k : SnapKind) (e : Entry) : Bool :=
  match k with
  | .fast => !e.late
  | .full => true

/-- Whether the view of a kind shows an entry as CONFLICTED (R167). -/
def SnapKind.showsConflict (k : SnapKind) (e : Entry) : Bool :=
  match k with
  | .fast => e.mark == .beforeFastCut
  | .full => e.mark != .none

/-- The entry that the view of a kind shows for a stream (R167). -/
def Slot.shown (sl : Slot) (k : SnapKind) (i : StreamId) : Option Entry := (sl.entries[i]).filter k.shows

/-- The item of a stream in the view of a kind (R169). -/
def Slot.item (sl : Slot) (k : SnapKind) (i : StreamId) : SnapItem where
  stream := i
  form :=
    match sl.shown k i with
    | some e => .entry (sl.expected.contains i) (sl.gating.contains i) e.late (k.showsConflict e) e
    | none => if sl.expected.contains i then .missing (sl.gating.contains i) else .notExpected

/-- The present count of a view: the streams of the expected set that it shows an entry for (R170). -/
def Slot.presentCount (sl : Slot) (k : SnapKind) : Nat := sl.expected.countP fun i => (sl.shown k i).isSome

/-- The cause of a slot's cut of a kind (R168). -/
def Slot.cause (sl : Slot) : SnapKind → Cause
  | .fast => (sl.fastCut.map Cut.cause).getD .deadline
  | .full => (sl.fullCut.map Cut.cause).getD .deadline

/-- The snapshot of a slot that holds the cut of a kind numbered `n`, rendered through a filter (R162, R168, R169). -/
def Slot.view (sl : Slot) (k : SnapKind) (n skipped : Nat) (filter : List StreamId) : Snapshot where
  kind := k
  seq := n
  key := sl.key
  bank := sl.bank
  generation := sl.generation
  cause := sl.cause k
  timeClass := sl.timeClass
  discontinuity := sl.discontinuity
  expectedCount := sl.expected.length
  presentCount := sl.presentCount k
  skipped := skipped
  items := (allStreams.filter fun i => filter.contains i && sl.enabled.contains i).map (sl.item k)

/-! ### Cursors -/

/-- A port's cursor of a kind (R159). -/
def Port.snapCursor (p : Port) : SnapKind → Nat
  | .fast => p.fastCursor
  | .full => p.fullCursor

/-- A port's cursor of a kind moved (R159). -/
def Port.moveCursor (p : Port) (k : SnapKind) (n : Nat) : Port :=
  match k with
  | .fast => { p with fastCursor := n }
  | .full => { p with fullCursor := n }

/-- Whether a port's subscription holds a kind (R159). -/
def Port.subscribed (p : Port) : SnapKind → Bool
  | .fast => p.subFast
  | .full => p.subFull

/-- The cursor that a start mode sets for a newly subscribed kind (R161). -/
def AlignTable.startCursor (t : AlignTable) (fromOldest : Bool) (k : SnapKind) : Nat :=
  if fromOldest then (t.oldest k).getD (t.next k) else t.next k

/-- The cursor of a kind after a SUBSCRIBE: set by the start mode for a kind newly subscribed, kept otherwise (R160). -/
def AlignTable.cursorAfter (t : AlignTable) (fromOldest newly : Bool) (k : SnapKind) (kept : Nat) : Nat :=
  if newly then t.startCursor fromOldest k else kept

/-- A port after a SUBSCRIBE that is taken (R160). -/
def Port.subscribe (p : Port) (t : AlignTable) (kinds : Bool × Bool) (fromOldest : Bool) (filter : List StreamId) :
    Port :=
  { p with
    subFast := kinds.1
    subFull := kinds.2
    filter := filter
    fastCursor := t.cursorAfter fromOldest (kinds.1 && !p.subFast) .fast p.fastCursor
    fullCursor := t.cursorAfter fromOldest (kinds.2 && !p.subFull) .full p.fullCursor }

/-- What SUBSCRIBE answers of a port's reading state (R160). -/
def Port.readingReply (p : Port) : Reply :=
  .ok (.reading p.subFast p.subFull p.filter p.fastCursor p.fullCursor)

/-- SUBSCRIBE at the port (R160). -/
def State.subscribe (s : State) (p : PortId) (kinds start count : Byte) (indices : List Byte) : State × Reply :=
  match decodeSubscription kinds, decodeFromOldest start, decodeFilter count indices with
  | some ks, some oldest, some filter =>
    let q := s.ports[p].subscribe s.table ks oldest filter
    (s.updPort p fun _ => q, q.readingReply)
  | _, _, _ => (s, .bare .invalid)

/-! ### Reads (R163 to R165) -/

/-- READ SNAPSHOT NEXT of a kind, from the port's cursor and the table's answers (R164). -/
def State.readNext (s : State) (p : PortId) (k : SnapKind) : State × Reply :=
  let port := s.ports[p]
  let c := port.snapCursor k
  let N := s.table.next k
  if N ≤ c then (s, .bare .notYet)
  else
    match s.table.retained k c with
    | some sl => (s.updPort p fun q => q.moveCursor k (c + 1), .ok (.snapshot (sl.view k c 0 port.filter)))
    | none =>
      match s.table.oldest k with
      | some o =>
        match s.table.retained k o with
        | some sl =>
          (s.updPort p fun q => q.moveCursor k (o + 1), .ok (.snapshot (sl.view k o (o - c) port.filter)))
        | none => (s.updPort p fun q => q.moveCursor k N, { code := .expired, result := .oldest N })
      | none => (s.updPort p fun q => q.moveCursor k N, { code := .expired, result := .oldest N })

/-- READ SNAPSHOT with target NEXT at the port (R163). -/
def State.readSnapshotNext (s : State) (p : PortId) (kind : Byte) : State × Reply :=
  match decodeSnapKind kind with
  | none => (s, .bare .invalid)
  | some k => if s.ports[p].subscribed k then s.readNext p k else (s, .bare .state)

/-- READ SNAPSHOT with another target byte at the port: 1 is a sequence number, and any other byte names no target
(R163, R165, R188). -/
def State.readSnapshotSequence (s : State) (p : PortId) (kind target : Byte) (n : Nat) : State × Reply :=
  match decodeSnapKind kind with
  | none => (s, .bare .invalid)
  | some k =>
    if target ≠ 1 then (s, .bare .invalid)
    else if s.table.next k ≤ n then (s, .bare .notYet)
    else
      match s.table.retained k n with
      | some sl => (s, .ok (.snapshot (sl.view k n 0 s.ports[p].filter)))
      | none =>
        (s, { code := .expired, result := .oldest ((s.table.oldest k).getD (s.table.next k)) })

end Sys2Proof.Machine
end

