-- ==== Sys2Proof/Machine/Reports.lean ====
section
/-! DEFINITION. What the requests that read answer: STATUS, READ CONDITIONS, READ ROSTER STATE, READ STREAM DETAIL, READ
WORST LATENCY and READ LANES (R22, R37, R87, R110 to R112, R133, R145, R152, R154, R176). -/

namespace Sys2Proof.Machine

/-- The correction in progress as STATUS reports it (R22). -/
def State.correctionReport (s : State) : CorrectionReport :=
  match s.timebase.correction with
  | .none => .none
  | .slew e start => .slew (e - slewApplied e (min (s.timebase.elapsed - start) slewTime))
  | .pause ends => .pause (s.timeLeft ends)

/-- The number of streams in a health state (R112). -/
def Supervisor.countHealth (sv : Supervisor) (h : Health) : Nat :=
  allStreams.countP fun i => decide (sv.streams[i].health = h)

/-- The health states in the order of R190. -/
def allHealths : List Health := [.unconfigured, .awaiting, .live, .lagging, .silent, .quarantined, .halted]

/-- The epoch key of the newest slot that is not FREE (R87): the last of the slots, which stand in epoch order. -/
def AlignTable.newest (t : AlignTable) : Option EpochKey := t.slots.getLast?.map Slot.key

/-- The items of STATUS sent from port `p` (R152). -/
def State.statusReport (s : State) (p : PortId) : StatusReport where
  port := p
  taken := s.ports[p].takenCount
  busy := s.ports[p].busyCount
  discards := s.ports[p].discardCount
  skipped := s.ports[p].skippedCount
  timeState := s.timebase.state
  localTime := s.timebase.localTime
  timeClass := s.timebase.state.timeClass
  elapsed := s.timebase.elapsed
  correction := s.correctionReport
  acceptance := s.timebase.acceptance
  rejectedError := s.timebase.rejectedError
  device := s.device
  freeSlots := 512 - s.table.slots.length
  openSlots := s.table.countState .opened
  fastCutSlots := s.table.countState .fastCut
  closedSlots := s.table.countState .closed
  nextFast := s.table.nextFast
  nextFull := s.table.nextFull
  oldestFast := s.table.oldest .fast
  oldestFull := s.table.oldest .full
  newestKey := s.table.newest
  horizon := s.table.horizon
  healthCounts := allHealths.map s.supervisor.countHealth
  fastWait := s.supervisor.fastWait
  active := s.store.active
  standby := s.store.standby
  generation := s.store.generation
  activeLabel := s.store.activeBank.map Bank.label
  standbyLabel := (s.store.bank s.store.standby).label
  activeRate := s.store.activeBank.map fun b => b.globals[(0 : Fin 12)]
  claim := s.store.claim.map fun c => (c.holder, s.timeLeft c.expires)
  pendingSwitch := s.store.pendingSwitch.map fun S => (S, s.store.standby)
  draining := s.store.draining
  lastSwitch := s.store.lastSwitch
  pendingCommands := s.relay.pendingCount
  outcome := s.ports[p].outcome

/-- READ CONDITIONS at the port: the three sets, and the latched kinds removed (R176). -/
def State.readConditions (s : State) (p : PortId) : State × Reply :=
  (s.updPort p fun q => { q with latched := 0 },
    .ok (.conditions s.ports[p].latched (liveKinds s p) s.ports[p].mask))

/-- SET MASK at the port (R153). -/
def State.setMask (s : State) (p : PortId) (count : Byte) (kinds : List Byte) : State × Reply :=
  match decodeMask count kinds with
  | some m => (s.updPort p fun q => { q with mask := m }, .ok (.mask m))
  | none => (s, .bare .invalid)

/-- READ ROSTER STATE: the healths and codes, and the port's watch copy renewed (R154). -/
def State.readRosterState (s : State) (p : PortId) : State × Reply :=
  (s.updPort p fun q => { q with watch := Vector.ofFn fun i => s.supervisor.streams[i].health },
    .ok (.roster (s.store.active.map fun _ => s.store.generation)
      (allStreams.map fun i => (s.supervisor.streams[i].health, s.store.activeStation i))))

/-- The items of READ STREAM DETAIL for a stream (R110, R145). -/
def State.streamDetail (s : State) (i : StreamId) : StreamDetail :=
  let r := s.supervisor.streams[i]
  { stream := i
    station := s.store.activeStation i
    health := r.health
    faultCount := r.faultCount
    quietLeft := r.quietTimer.map s.timeLeft
    lastFault := r.lastFault
    missStreak := r.missStreak
    onTimeStreak := r.onTimeStreak
    silenceLeft := r.silenceTimer.map s.timeLeft
    lastAccepted := r.lastAccepted
    lastLane := r.lastLane
    tracker := r.tracker
    slot := s.relay.slots[i]
    timeoutLeft := (s.relay.slots[i].map fun c => s.timeLeft c.timeout).getD 0
    nextTag := s.relay.tags[i] }

/-- READ STREAM DETAIL (R110). -/
def State.readStreamDetail (s : State) (index : Byte) : State × Reply :=
  match decodeStream index with
  | some i => (s, .ok (.detail (s.streamDetail i)))
  | none => (s, .bare .invalid)

/-- READ WORST LATENCY: the listed streams with their figures as they stand (R111).  A listed stream always has its
tracker (R89, R107, R108, R109). -/
def State.readWorstLatency (s : State) : State × Reply :=
  (s, .ok (.worst
    (s.supervisor.worst.filterMap fun i =>
      s.supervisor.streams[i].tracker.map fun t => (i, s.supervisor.streams[i].health, t))
    s.supervisor.worstSecond s.supervisor.fastWait))

/-- A lane report (R37). -/
def Lane.report (q : Lane) : LaneReport where
  up := q.up
  lastValid := q.lastValid
  depth := q.queue.length
  deepest := q.deepest
  validCount := q.validCount
  discardCount := q.discardCount
  overflowCount := q.overflowCount
  outboundDepth := q.outbound.length
  sentCount := q.sentCount
  dropCount := q.dropCount

/-- READ LANES (R37). -/
def State.readLanes (s : State) : State × Reply :=
  (s, .ok (.lanes (allLanes.map fun l => s.lanes[l].report) s.arbiter.position))

/-- RELEASE STREAM at the supervisor (R97). -/
def State.releaseStream (s : State) (index : Byte) : State × Reply :=
  match decodeStream index with
  | none => (s, .bare .invalid)
  | some i =>
    if s.supervisor.streams[i].health = .quarantined then
      (s.updStream i fun r => r.forgetFaults.setAwaiting s.timebase.elapsed s.silenceLimit, .bare .ok)
    else (s, .bare .state)

/-- STREAM COMMAND at the relay, its checks in the order of R136. -/
def State.streamCommand (s : State) (p : PortId) (index action : Byte) : State × Reply :=
  match decodeStream index, decodeAction action with
  | some i, some a =>
    if s.supervisor.streams[i].health = .unconfigured then (s, .bare .invalid)
    else if s.relay.slots[i].isSome then (s, .bare .busy)
    else
      match s.store.activeStation i with
      | none => (s, .bare .invalid)
      | some station =>
        if s.relay.stationBusy i station then (s, .bare .busy)
        else
          match s.route i with
          | none => (s, .bare .noRoute)
          | some l => (s.issueCommand p i a l station, .ok (.command s.relay.tags[i] l))
  | _, _ => (s, .bare .invalid)

/-- CLEAR ALIGNMENT at the table, the supervisor and all three ports (R85, R109, R155). -/
def State.clearAlignment (s : State) : State × Reply :=
  ((s.tableClear.supervisorClear).updPorts fun _ q =>
      ({ q with fastCursor := s.table.nextFast, fullCursor := s.table.nextFull }).latch .tableCleared,
    .ok (.numbers s.table.nextFast s.table.nextFull))

/-- A port's values after PORT RESET; its receiver, handler, outbound queue and line are not touched (R156, R158). -/
def Port.portReset (t : AlignTable) (q : Port) : Port :=
  { Port.reset with
    rx := q.rx
    handler := q.handler
    outbound := q.outbound
    lastSent := q.lastSent
    fastCursor := t.nextFast
    fullCursor := t.nextFull }

/-- PORT RESET at the sending port and, for the holder, at the store (R124, R156). -/
def State.portReset (s : State) (p : PortId) : State × Reply :=
  let s1 := if s.holds p then s.setClaim none else s
  (s1.updPort p (Port.portReset s.table), .bare .ok)

end Sys2Proof.Machine
end

