-- ==== Sys2Proof/Machine/Responses.lean ====
section
/-! DEFINITION. The bytes of a response: the codes of R188 and R190 and the encoding of every result (R151, R190). -/

namespace Sys2Proof.Machine

/-! ### Codes (R188, R190) -/

/-- The code of a response code (R188). -/
def Code.code : Code → Nat
  | .ok => 0
  | .busy => 1
  | .malformed => 2
  | .invalid => 3
  | .state => 4
  | .held => 5
  | .notHolder => 6
  | .refused => 7
  | .noRoute => 8
  | .expired => 9
  | .notYet => 10

/-- The code of a timebase state (R190). -/
def TimeState.code : TimeState → Nat
  | .unset => 0
  | .locked => 1
  | .holdover => 2
  | .drifting => 3
  | .rejected => 4

/-- The code of a device state (R190). -/
def DeviceState.code : DeviceState → Nat
  | .unprovisioned => 0
  | .waitingTime => 1
  | .aligning => 2

/-- The code of acceptance (R190). -/
def Acceptance.code : Acceptance → Nat
  | .none => 0
  | .armed => 1
  | .held => 2

/-- The code of a health (R190). -/
def Health.code : Health → Nat
  | .unconfigured => 0
  | .awaiting => 1
  | .live => 2
  | .lagging => 3
  | .silent => 4
  | .quarantined => 5
  | .halted => 6

/-- The code of a fault kind (R190). -/
def FaultKind.code : FaultKind → Nat
  | .offGrid => 0
  | .ahead => 1
  | .conflict => 2
  | .shape => 3
  | .timeInvalid => 4

/-- The code of a command outcome (R190). -/
def CommandResult.code : CommandResult → Nat
  | .done => 0
  | .refused => 1
  | .timedOut => 2

/-- The code of a read selector (R190). -/
def Selector.code : Selector → Nat
  | .active => 0
  | .standby => 1

/-- The code of an advance mode (R190). -/
def Advance.code : Advance → Nat
  | .none => 0
  | .afterEach => 1
  | .afterPut => 2

/-- The code of a snapshot kind (R190). -/
def SnapKind.code : SnapKind → Nat
  | .fast => 0
  | .full => 1

/-- The code of a cut cause (R190). -/
def Cause.code : Cause → Nat
  | .deadline => 0
  | .gating => 1
  | .complete => 2

/-! ### Items (R190) -/

/-- A truth value in one byte: 0 no, 1 yes. -/
def flagByte (b : Bool) : List Byte := [if b then 0x01 else 0x00]

/-- An item that may be absent: a byte 0 or 1, and the item when present. -/
def optionBytes {α : Type} (f : α → List Byte) : Option α → List Byte
  | none => [0x00]
  | some a => 0x01 :: f a

/-- A list: its item count in one byte, and its items. -/
def listBytes {α : Type} (f : α → List Byte) (l : List α) : List Byte := bytesOf 1 l.length ++ l.flatMap f

/-- A number in one byte. -/
def byte1 (n : Nat) : List Byte := bytesOf 1 n

/-- A count, second or latency figure in four bytes. -/
def byte4 (n : Nat) : List Byte := bytesOf 4 n

/-- A sequence number in six bytes. -/
def byte6 (n : Nat) : List Byte := bytesOf 6 n

/-- An elapsed time in eight bytes. -/
def byte8 (n : Nat) : List Byte := bytesOf 8 n

/-- An epoch key: its second (4) and index (1). -/
def EpochKey.bytes (e : EpochKey) : List Byte := byte4 e.second ++ byte1 e.index

/-- Local time: its second (4) and ns part (4). -/
def LocalTime.bytes (t : LocalTime) : List Byte := byte4 t.second ++ byte4 t.ns

/-- A set of kinds in two bytes. -/
def kindSetBytes (k : KindSet) : List Byte := bytesOf 2 k.toNat

/-- A profile cursor as in PROFILE CURSOR: selector, address, mode. -/
def ProfileCursor.bytes (c : ProfileCursor) : List Byte :=
  byte1 c.selector.code ++ bytesOf 2 c.address ++ byte1 c.mode.code

/-- The subscription as the enumeration of subscription kinds. -/
def subscriptionCode (fast full : Bool) : Nat := (if fast then 1 else 0) + (if full then 2 else 0)

/-- The correction in progress: its code, and for SLEW the part not applied, for PAUSE the time left, without a presence
byte (R22; notes/assumptions/16.md). -/
def CorrectionReport.bytes : CorrectionReport → List Byte
  | .none => byte1 0
  | .slew left => byte1 1 ++ signedBytesOf 8 left
  | .pause left => byte1 2 ++ byte8 left

/-- A latency tracker's three figures. -/
def Tracker.bytes (t : Tracker) : List Byte := byte4 t.last ++ byte4 t.smoothed ++ byte4 t.peak

/-- The fast wait in force and the bank it was set for. -/
def FastWait.bytes (w : FastWait) : List Byte := bytesOf 2 w.ms ++ optionBytes (fun b : BankId => byte1 b.val) w.bank

/-- A last command outcome (R143). -/
def CommandOutcome.bytes (o : CommandOutcome) : List Byte :=
  byte1 o.stream.val ++ bytesOf 2 o.station ++ byte1 o.action.code ++ [o.tag] ++ byte1 o.result.code
    ++ flagByte o.applied ++ optionBytes byte8 o.roundTrip

/-- A command slot: its state, and for PENDING its fields, without presence bytes (R145; notes/assumptions/16.md). -/
def commandSlotBytes (slot : Option CommandSlot) (timeoutLeft : Nat) : List Byte :=
  match slot with
  | none => byte1 0
  | some c =>
    byte1 1 ++ byte1 c.action.code ++ byte1 c.port.val ++ bytesOf 2 c.station ++ [c.tag] ++ byte1 c.lane.val
      ++ byte8 timeoutLeft

/-- A lane report (R37). -/
def LaneReport.bytes (r : LaneReport) : List Byte :=
  byte1 (if r.up then 0 else 1) ++ optionBytes byte8 r.lastValid ++ byte1 r.depth ++ byte1 r.deepest
    ++ byte4 r.validCount.toNat ++ byte4 r.discardCount.toNat ++ byte4 r.overflowCount.toNat
    ++ byte1 r.outboundDepth ++ byte4 r.sentCount.toNat ++ byte4 r.dropCount.toNat

/-- The items of READ STREAM DETAIL (R110, R145). -/
def StreamDetail.bytes (d : StreamDetail) : List Byte :=
  byte1 d.stream.val ++ optionBytes (bytesOf 2) d.station ++ byte1 d.health.code ++ byte1 d.faultCount
    ++ optionBytes byte8 d.quietLeft ++ optionBytes (fun k : FaultKind => byte1 k.code) d.lastFault
    ++ byte1 d.missStreak ++ byte1 d.onTimeStreak ++ optionBytes byte8 d.silenceLeft
    ++ optionBytes byte8 d.lastAccepted ++ optionBytes (fun l : LaneId => byte1 l.val) d.lastLane
    ++ optionBytes Tracker.bytes d.tracker ++ commandSlotBytes d.slot d.timeoutLeft ++ [d.nextTag]

/-- The flags byte of an ENTRY item (R190). -/
def entryFlags (late conflicted : Bool) (e : Entry) : Nat :=
  (if late then 1 else 0) + (if e.doubtful then 2 else 0) + (if e.corrected then 4 else 0)
    + (if e.uncorrected then 8 else 0) + (if conflicted then 16 else 0)

/-- The fields of an ENTRY item from the flags on (R190). -/
def entryBytes (late conflicted : Bool) (e : Entry) : List Byte :=
  let r := e.record
  byte1 (entryFlags late conflicted e) ++ bytesOf 2 r.station.toNat ++ byte4 r.second.toNat
    ++ byte4 r.fraction.toNat ++ byte1 r.quality.toNat ++ byte1 r.phasors.length ++ byte1 r.analogs.length
    ++ bytesOf 2 r.status.toNat ++ bytesOf 2 r.freqDev.toNat ++ bytesOf 2 r.rocof.toNat
    ++ signedBytesOf 4 e.deltaNs ++ signedBytesOf 2 e.correction ++ byte1 e.lane.val ++ byte4 e.latency
    ++ r.phasors.flatMap (fun p => byte4 p.magnitude.toNat ++ bytesOf 2 p.angle.toNat)
    ++ r.analogs.flatMap fun v => byte4 v.toNat

/-- A snapshot item (R190). -/
def SnapItem.bytes (it : SnapItem) : List Byte :=
  byte1 it.stream.val ++
    match it.form with
    | .entry expected gating late conflicted e =>
      byte1 0 ++ byte1 ((if expected then 1 else 0) + (if gating then 2 else 0)) ++ entryBytes late conflicted e
    | .missing gating => byte1 1 ++ byte1 (1 + if gating then 2 else 0)
    | .notExpected => byte1 2

/-- A delivered snapshot: the header and its items (R190). -/
def Snapshot.bytes (s : Snapshot) : List Byte :=
  byte1 s.kind.code ++ byte6 s.seq ++ EpochKey.bytes s.key ++ byte1 s.bank.val ++ bytesOf 2 s.generation.toNat
    ++ byte1 s.cause.code ++ byte1 s.timeClass.val ++ flagByte s.discontinuity ++ byte1 s.expectedCount
    ++ byte1 s.presentCount ++ byte6 s.skipped ++ listBytes SnapItem.bytes s.items

/-- The port and timebase groups of STATUS (R22, R152). -/
def StatusReport.timeBytes (r : StatusReport) : List Byte :=
  byte1 r.port.val ++ byte4 r.taken.toNat ++ byte4 r.busy.toNat ++ byte4 r.discards.toNat ++ byte4 r.skipped.toNat
    ++ byte1 r.timeState.code ++ optionBytes LocalTime.bytes r.localTime
    ++ optionBytes (fun c : Fin 4 => byte1 c.val) r.timeClass ++ byte8 r.elapsed ++ r.correction.bytes
    ++ byte1 r.acceptance.code ++ optionBytes (signedBytesOf 8) r.rejectedError ++ byte1 r.device.code

/-- The table and supervisor groups of STATUS (R87, R112). -/
def StatusReport.tableBytes (r : StatusReport) : List Byte :=
  bytesOf 2 r.freeSlots ++ bytesOf 2 r.openSlots ++ bytesOf 2 r.fastCutSlots ++ bytesOf 2 r.closedSlots
    ++ byte6 r.nextFast ++ byte6 r.nextFull ++ optionBytes byte6 r.oldestFast ++ optionBytes byte6 r.oldestFull
    ++ optionBytes EpochKey.bytes r.newestKey ++ optionBytes EpochKey.bytes r.horizon
    ++ r.healthCounts.flatMap byte1 ++ r.fastWait.bytes

/-- The profile store and command relay groups of STATUS (R133, R143, R145). -/
def StatusReport.storeBytes (r : StatusReport) : List Byte :=
  optionBytes (fun b : BankId => byte1 b.val) r.active ++ byte1 r.standby.val ++ bytesOf 2 r.generation.toNat
    ++ optionBytes (fun w : Word => byte4 w.toNat) r.activeLabel ++ byte4 r.standbyLabel.toNat
    ++ optionBytes (fun w : Word => byte1 w.toNat) r.activeRate
    ++ optionBytes (fun c : PortId × Nat => byte1 c.1.val ++ byte8 c.2) r.claim
    ++ optionBytes (fun c : Nat × BankId => byte4 c.1 ++ byte1 c.2.val) r.pendingSwitch
    ++ optionBytes (fun d : Draining => bytesOf 2 d.generation.toNat ++ byte4 d.second) r.draining
    ++ optionBytes byte4 r.lastSwitch ++ byte1 r.pendingCommands ++ optionBytes CommandOutcome.bytes r.outcome

/-- The payload of a response (R151, R190). -/
def Result.bytes : Result → List Byte
  | .empty => []
  | .failing a => bytesOf 2 a
  | .oldest n => byte6 n
  | .conditions lat liv msk => kindSetBytes lat ++ kindSetBytes liv ++ kindSetBytes msk
  | .mask m => kindSetBytes m
  | .reading fast full filter fc uc =>
    byte1 (subscriptionCode fast full) ++ listBytes (fun i : StreamId => byte1 i.val) filter ++ byte6 fc ++ byte6 uc
  | .snapshot s => s.bytes
  | .roster g streams =>
    optionBytes (fun g : Generation => bytesOf 2 g.toNat) g
      ++ streams.flatMap fun x => byte1 x.1.code ++ optionBytes (bytesOf 2) x.2
  | .detail d => d.bytes
  | .worst listed second wait =>
    listBytes (fun x : StreamId × Health × Tracker => byte1 x.1.val ++ byte1 x.2.1.code ++ x.2.2.bytes) listed
      ++ optionBytes byte4 second ++ wait.bytes
  | .lanes reports position => reports.flatMap LaneReport.bytes ++ byte1 position.val
  | .cursor c => c.bytes
  | .items vs c => listBytes (fun w : Word => byte4 w.toNat) vs ++ c.bytes
  | .command tag lane => [tag] ++ byte1 lane.val
  | .numbers fast full => byte6 fast ++ byte6 full
  | .status r => r.timeBytes ++ r.tableBytes ++ r.storeBytes

/-- A response frame on the line (R151, R188). -/
def OutFrame.bytes (f : OutFrame) : List Byte :=
  consumerFrameBytes f.tag (BitVec.ofNat 8 f.reply.code.code) f.reply.result.bytes

end Sys2Proof.Machine
end

