-- ==== Sys2Proof/Machine/Link.lean ====
section
/-! DEFINITION. The consumer link: the receivers, the request handlers and the outbound queues of the ports (R147 to
R151), with the meanings of the two link commands. -/

namespace Sys2Proof.Machine

/-- A response joins a port's outbound queue at its tail (R149, R150). -/
def Port.push (f : OutFrame) (q : Port) : Port := { q with outbound := q.outbound ++ [f] }

/-- How many BUSY answers wait in a port's outbound queue (R150). -/
def Port.busyWaiting (q : Port) : Nat := q.outbound.countP fun f => !f.ofRequest

/-- A frame discarded at a port: the discard count, and LINK_ERROR in that port (R148). -/
def Port.discard (q : Port) : Port := ({ q with discardCount := q.discardCount + 1 }).latch .linkError

/-- A good frame taken while the handler is EXECUTING: answered BUSY, or discarded when three BUSY answers wait
(R150). -/
def Port.busyAnswer (tag : Byte) (q : Port) : Port :=
  if q.busyWaiting < busyLimit then
    { q with busyCount := q.busyCount + 1 }.push { tag := tag, reply := .bare .busy, ofRequest := false }
  else q.discard

/-- The handler takes a good frame while IDLE: EXECUTING with the request in hand, and the taken count (R149). -/
def Port.takeInHand (c : Instr) (q : Port) : Port :=
  { q with handler := .inHand c, takenCount := q.takenCount + 1 }

/-- The response of the executing request composed (R149, R151). -/
def Port.respond (tag : Byte) (r : Reply) (q : Port) : Port :=
  { q with handler := .responding }.push { tag := tag, reply := r, ofRequest := true }

/-- A good frame whose code or length fits no request: MALFORMED, and no block is reached (R149). -/
def Port.malformed (tag : Byte) (q : Port) : Port :=
  { q with takenCount := q.takenCount + 1 }.respond tag (.bare .malformed)

/-! ### Receiving (R147, R188) -/

/-- A port's receiver has gathered bytes, the last of them at `now` (R147): a declared length above 8192 is a length
overrun; the last check byte completes the frame. -/
def requestGather (now : Nat) (got : List Byte) : Rx × Arrival :=
  match got with
  | _ :: _ :: hi :: lo :: rest =>
    if requestPayloadLimit < valueOf [hi, lo] then (.hunting, .brokenOff)
    else if rest.length = valueOf [hi, lo] + 2 then (.hunting, .whole got)
    else (.receiving got now, .nothing)
  | _ => (.receiving got now, .nothing)

/-- A port's receiver takes an event at the elapsed time `now` (R147). -/
def requestReceive (now : Nat) (rx : Rx) (e : LineEvent) : Rx × Arrival :=
  match rx, e with
  | .hunting, .byte b => if b = 0x5A then (.receiving [] now, .nothing) else (.hunting, .nothing)
  | .hunting, _ => (.hunting, .nothing)
  | .receiving got _, .byte b => requestGather now (got ++ [b])
  | .receiving _ _, _ => (.hunting, .brokenOff)

/-- Whether a byte is skipped: it is not the preamble and the receiver is HUNTING (R147). -/
def skips (rx : Rx) (e : LineEvent) : Bool :=
  match rx, e with
  | .hunting, .byte b => b != 0x5A
  | _, _ => false

/-- The tag, code and payload of a frame, given as its bytes after the preamble, when its check value agrees (R147,
R188). -/
def checkRequestFrame (bytes : List Byte) : Option (Byte × Byte × List Byte) :=
  match bytes with
  | tag :: code :: hi :: lo :: rest =>
    let n := valueOf [hi, lo]
    if (crc16 (tag :: code :: hi :: lo :: rest.take n)).toNat = valueOf (rest.drop n) then
      some (tag, code, rest.take n)
    else none
  | _ => none

/-- A good frame at a port's handler (R149, R150). -/
def Port.goodFrame (p : PortId) (tag code : Byte) (payload : List Byte) (q : Port) : Port :=
  match q.handler with
  | .idle =>
    match decodeRequest p tag code payload with
    | some c => q.takeInHand c
    | none => q.malformed tag
  | _ => q.busyAnswer tag

/-- An arrival at a port (R147, R148). -/
def Port.arrival (p : PortId) (q : Port) : Arrival → Port
  | .nothing => q
  | .brokenOff => q.discard
  | .whole bytes =>
    match checkRequestFrame bytes with
    | some f => q.goodFrame p f.1 f.2.1 f.2.2
    | none => q.discard

/-- One event on a port's line, at the elapsed time `now`. -/
def Port.lineEvent (p : PortId) (now : Nat) (q : Port) (e : LineEvent) : Port :=
  let r := requestReceive now q.rx e
  let q1 := if skips q.rx e then { q with skippedCount := q.skippedCount + 1 } else q
  { q1 with rx := r.1 }.arrival p r.2

/-- Characters reach a port's receiver, behind the gap that elapsed time has made (R147). -/
def Port.line (p : PortId) (now : Nat) (line : List LineEvent) (q : Port) : Port :=
  (q.rx.sees requestGapTime now line).foldl (Port.lineEvent p now) q

/-- REQUEST_FRAME_ARRIVAL: a frame that a gap has broken off is discarded, and the characters reach the receiver one by
one (R147 to R150). -/
def execRequestFrameArrival (p : PortId) (line : List LineEvent) (s : State) :
    Host.Outcome State Fault Refusal :=
  .next (s.whileOperating fun s => s.updPort p (Port.line p s.timebase.elapsed line))

/-- The transmission of the first response ends: it leaves the queue, and the handler becomes IDLE when it was the
executing request's (R149, R150). -/
def Port.responseSent (q : Port) : Port :=
  match q.outbound with
  | [] => q
  | f :: rest =>
    { q with
      outbound := rest
      lastSent := some f.bytes
      handler := if f.ofRequest then .idle else q.handler }

/-- RESPONSE_SENT (R150). -/
def execResponseSent (p : PortId) (s : State) : Host.Outcome State Fault Refusal :=
  .next (s.whileOperating fun s => s.updPort p Port.responseSent)

/-! ### A request at its owner -/

/-- A request of port `p` taken whole by its owner, and its response composed (R149). -/
def State.answer (s : State) (p : PortId) (tag : Byte) (owner : State → State × Reply) : State :=
  ((owner s).1).updPort p (Port.respond tag (owner s).2)

/-- A request command `c` of port `p`.  With `c` in hand, the owner takes it.  With the handler IDLE, the command is the
good frame itself: the handler takes it and the owner takes it in the same step.  With the handler EXECUTING another
request, the frame is answered BUSY (R149, R150; notes/assumptions/3.md). -/
def State.serve (s : State) (c : Instr) (p : PortId) (tag : Byte) (owner : State → State × Reply) : State :=
  match s.ports[p].handler with
  | .idle => (s.updPort p (Port.takeInHand c)).answer p tag owner
  | .inHand d => if d = c then s.answer p tag owner else s.updPort p (Port.busyAnswer tag)
  | .responding => s.updPort p (Port.busyAnswer tag)

/-- A request command as a step: served while the part operates. -/
def serveStep (c : Instr) (p : PortId) (tag : Byte) (owner : State → State × Reply) (s : State) :
    Host.Outcome State Fault Refusal :=
  .next (s.whileOperating fun s => s.serve c p tag owner)

end Sys2Proof.Machine
end

