-- ==== Sys2Proof/Machine/Requests.lean ====
section
/-! DEFINITION. The meanings of the request rows: each is its request served by its owner. -/

namespace Sys2Proof.Machine

/-- An owner reached only when the payload has the length its code calls for; otherwise MALFORMED (R149, R189). -/
def orMalformed (fits : Bool) (owner : State → State × Reply) (s : State) : State × Reply :=
  if fits then owner s else (s, .bare .malformed)

/-- STATUS (R152). -/
def execStatus (p : PortId) (tag : Byte) (s : State) : Host.Outcome State Fault Refusal :=
  serveStep (.status p tag) p tag (fun s => (s, .ok (.status (s.statusReport p)))) s

/-- READ CONDITIONS (R176). -/
def execReadConditions (p : PortId) (tag : Byte) (s : State) : Host.Outcome State Fault Refusal :=
  serveStep (.readConditions p tag) p tag (fun s => s.readConditions p) s

/-- SET MASK (R153). -/
def execSetMask (p : PortId) (tag count : Byte) (kinds : List Byte) (s : State) : Host.Outcome State Fault Refusal :=
  serveStep (.setMask p tag count kinds) p tag (orMalformed (kinds.length == 15) fun s => s.setMask p count kinds) s

/-- SUBSCRIBE (R160). -/
def execSubscribe (p : PortId) (tag kinds start count : Byte) (indices : List Byte) (s : State) :
    Host.Outcome State Fault Refusal :=
  serveStep (.subscribe p tag kinds start count indices) p tag
    (orMalformed (indices.length == 48) fun s => s.subscribe p kinds start count indices) s

/-- READ SNAPSHOT with target NEXT (R163, R164). -/
def execReadSnapshotNext (p : PortId) (tag kind : Byte) (unused : BitVec 48) (s : State) :
    Host.Outcome State Fault Refusal :=
  serveStep (.readSnapshotNext p tag kind unused) p tag (fun s => s.readSnapshotNext p kind) s

/-- READ SNAPSHOT with an explicit sequence number (R163, R165). -/
def execReadSnapshotSequence (p : PortId) (tag kind target : Byte) (seq : BitVec 48) (s : State) :
    Host.Outcome State Fault Refusal :=
  serveStep (.readSnapshotSequence p tag kind target seq) p tag
    (fun s => s.readSnapshotSequence p kind target seq.toNat) s

/-- READ ROSTER STATE (R154). -/
def execReadRosterState (p : PortId) (tag : Byte) (s : State) : Host.Outcome State Fault Refusal :=
  serveStep (.readRosterState p tag) p tag (fun s => s.readRosterState p) s

/-- READ STREAM DETAIL (R110, R145). -/
def execReadStreamDetail (p : PortId) (tag index : Byte) (s : State) : Host.Outcome State Fault Refusal :=
  serveStep (.readStreamDetail p tag index) p tag (fun s => s.readStreamDetail index) s

/-- READ WORST LATENCY (R111). -/
def execReadWorstLatency (p : PortId) (tag : Byte) (s : State) : Host.Outcome State Fault Refusal :=
  serveStep (.readWorstLatency p tag) p tag State.readWorstLatency s

/-- READ LANES (R37). -/
def execReadLanes (p : PortId) (tag : Byte) (s : State) : Host.Outcome State Fault Refusal :=
  serveStep (.readLanes p tag) p tag State.readLanes s

/-- PROFILE CURSOR (R118). -/
def execProfileCursor (p : PortId) (tag selector : Byte) (address : BitVec 16) (mode : Byte) (s : State) :
    Host.Outcome State Fault Refusal :=
  serveStep (.profileCursor p tag selector address mode) p tag (fun s => s.profileCursor p selector address mode) s

/-- PROFILE GET (R119). -/
def execProfileGet (p : PortId) (tag count : Byte) (s : State) : Host.Outcome State Fault Refusal :=
  serveStep (.profileGet p tag count) p tag (fun s => s.profileGet p count) s

/-- PROFILE PUT (R120). -/
def execProfilePut (p : PortId) (tag : Byte) (values : List Word) (s : State) : Host.Outcome State Fault Refusal :=
  serveStep (.profilePut p tag values) p tag
    (orMalformed (1 ≤ values.length && values.length ≤ profileRunLimit) fun s => s.profilePut p values) s

/-- BEGIN EDIT (R122). -/
def execBeginEdit (p : PortId) (tag : Byte) (s : State) : Host.Outcome State Fault Refusal :=
  serveStep (.beginEdit p tag) p tag (fun s => s.beginEdit p) s

/-- ABANDON EDIT (R124). -/
def execAbandonEdit (p : PortId) (tag : Byte) (s : State) : Host.Outcome State Fault Refusal :=
  serveStep (.abandonEdit p tag) p tag (fun s => s.abandonEdit p) s

/-- COMMIT SWITCH in AT_SECOND mode, or with a mode byte that names no mode (R125, R128). -/
def execCommitSwitchAtSecond (p : PortId) (tag mode : Byte) (second : Word) (s : State) :
    Host.Outcome State Fault Refusal :=
  serveStep (.commitSwitchAtSecond p tag mode second) p tag (fun s => s.commitAtSecond p mode second.toNat) s

/-- COMMIT SWITCH in NOW mode (R125, R129). -/
def execCommitSwitchNow (p : PortId) (tag : Byte) (ignored : Word) (s : State) : Host.Outcome State Fault Refusal :=
  serveStep (.commitSwitchNow p tag ignored) p tag (fun s => s.commitNow p) s

/-- CANCEL SWITCH (R130). -/
def execCancelSwitch (p : PortId) (tag : Byte) (s : State) : Host.Outcome State Fault Refusal :=
  serveStep (.cancelSwitch p tag) p tag State.cancelSwitch s

/-- STREAM COMMAND (R136, R137). -/
def execStreamCommand (p : PortId) (tag index action : Byte) (s : State) : Host.Outcome State Fault Refusal :=
  serveStep (.streamCommand p tag index action) p tag (fun s => s.streamCommand p index action) s

/-- RELEASE STREAM (R97). -/
def execReleaseStream (p : PortId) (tag index : Byte) (s : State) : Host.Outcome State Fault Refusal :=
  serveStep (.releaseStream p tag index) p tag (fun s => s.releaseStream index) s

/-- ACCEPT REFERENCE (R15). -/
def execAcceptReference (p : PortId) (tag : Byte) (s : State) : Host.Outcome State Fault Refusal :=
  serveStep (.acceptReference p tag) p tag State.acceptReference s

/-- CLEAR ALIGNMENT (R85, R109, R155). -/
def execClearAlignment (p : PortId) (tag : Byte) (s : State) : Host.Outcome State Fault Refusal :=
  serveStep (.clearAlignment p tag) p tag State.clearAlignment s

/-- PORT RESET (R156). -/
def execPortReset (p : PortId) (tag : Byte) (s : State) : Host.Outcome State Fault Refusal :=
  serveStep (.portReset p tag) p tag (fun s => s.portReset p) s

end Sys2Proof.Machine
end

