-- ==== Sys2Proof/Machine/Resets.lean ====
section
/-! DEFINITION. Power-on, the supplies and the reset line (R191, with the reset columns of R23, R39, R88, R113, R134,
R146, R158 and R182). -/

namespace Sys2Proof.Machine

/-- Every block at its power-on values; the supplies, the level of RESET_N and the waiting commands are kept. -/
def State.powerOnValues (s : State) : State :=
  { State.reset with supplies := s.supplies, resetLow := s.resetLow, pending := s.pending }

/-- The profile store after the reset line: the banks, the roles, the generation and the last switch second kept; no
claim, no pending switch, no draining (R134). -/
def ProfileStore.resetLine (ps : ProfileStore) : ProfileStore :=
  { ps with claim := none, pendingSwitch := none, draining := none }

/-- Every block at its reset-line values; the supplies, the level of RESET_N and the waiting commands are kept. -/
def State.resetLineValues (s : State) : State :=
  { s.powerOnValues with
    store := s.store.resetLine
    supervisor := Supervisor.resetLine s.store }

/-- POWER_ON: both supplies come within their limits, and power-on acts until it is left (R191). -/
def execPowerOn (s : State) : Host.Outcome State Fault Refusal :=
  .next { s.powerOnValues with supplies := .rising }

/-- POWER_ON_EXIT: the supplies have been within their limits for 10 ms, and power-on is left (R191). -/
def execPowerOnExit (s : State) : Host.Outcome State Fault Refusal :=
  .next (if s.supplies = .rising then { s with supplies := .good } else s)

/-- SUPPLY_BELOW_LIMIT: acts as power-on again (R191). -/
def execSupplyBelowLimit (s : State) : Host.Outcome State Fault Refusal :=
  .next { s.powerOnValues with supplies := .below }

/-- RESET_LINE: RESET_N is low, and every block takes and holds its reset-line values (R191). -/
def execResetLine (s : State) : Host.Outcome State Fault Refusal :=
  .next { s.resetLineValues with resetLow := true }

/-- RESET_LINE_RELEASE: the rising edge of RESET_N ends the reset, and elapsed time starts from 0 (R191). -/
def execResetLineRelease (s : State) : Host.Outcome State Fault Refusal :=
  .next (if s.resetLow then { s with resetLow := false, timebase := { s.timebase with elapsed := 0 } } else s)

end Sys2Proof.Machine
end

