-- ==== Sys2Proof/Machine/Idle.lean ====
section
/-! DEFINITION. What the part does of itself while no command waits: the events that have become due, in one fixed order,
and the passing of one oscillator period (R1, R3; notes/assumptions/2.md). -/

namespace Sys2Proof.Machine

/-- A command that is due, as a list. -/
def dueIf (b : Bool) (c : Instr) : List Instr := if b then [c] else []

/-- The elapsed-time timers of the timebase that have expired (R1, R5, R10, R12). -/
def State.dueTimebase (s : State) : List Instr :=
  dueIf (s.timerDue s.timebase.lossTimer) .ppsLossTimerExpiry
    ++ dueIf (s.timerDue s.timebase.holdoverTimer) .holdoverLimitExpiry
    ++ dueIf (s.timerDue s.timebase.correction.slewEnds) .slewEnd
    ++ dueIf (s.timerDue s.timebase.correction.pauseEnds) .pauseEnd

/-- The elapsed-time timers of the other blocks that have expired (R26, R93, R95, R123, R142). -/
def State.dueTimers (s : State) : List Instr :=
  (allLanes.flatMap fun l => dueIf (s.timerDue s.lanes[l].silenceTimer) (.laneSilenceTimerExpiry l))
    ++ (allStreams.flatMap fun i =>
        dueIf (s.timerDue s.supervisor.streams[i].silenceTimer) (.streamSilenceTimerExpiry i)
          ++ dueIf (s.timerDue s.supervisor.streams[i].quietTimer) (.quietTimerExpiry i)
          ++ dueIf (s.timerDue (s.relay.slots[i].map CommandSlot.timeout)) (.commandTimeout i))
    ++ dueIf (s.timerDue (s.store.claim.map Claim.expires)) .claimTimerExpiry

/-- The receivers whose frame a gap of elapsed time has broken off (R147, R185, R187): characters of their line, none in
number, bring the gap to them. -/
def State.dueGaps (s : State) : List Instr :=
  dueIf (s.timebase.rx.gapPast timeGapTime s.timebase.elapsed) (.timeMessage [])
    ++ (allLanes.flatMap fun l =>
        dueIf (s.lanes[l].rx.gapPast laneGapTime s.timebase.elapsed) (.laneFrameArrival l []))
    ++ allPorts.flatMap fun p =>
        dueIf (s.ports[p].rx.gapPast requestGapTime s.timebase.elapsed) (.requestFrameArrival p [])

/-- The slot deadlines that local time has reached and that have an effect, in epoch order, the fast one first (R78,
R79). -/
def State.dueDeadlines (s : State) : List Instr :=
  s.table.slots.flatMap fun sl =>
    dueIf (s.expired sl.fastDeadline && sl.state == .opened && sl.fastReady.isNone) (.fastDeadlineExpiry sl.key)
      ++ dueIf (s.expired sl.fullDeadline && sl.state != .closed && sl.fullReady.isNone) (.fullDeadlineExpiry sl.key)

/-- Whether the epoch-boundary event of the current epoch has an effect that is still to come (R18, R64). -/
def State.epochDue (s : State) : Bool :=
  !s.timebase.correction.isPause &&
    (match s.currentEpoch with
     | some c => opens s.table.horizon c
     | none => false)

/-- The boundary events that local time has reached (R17, R18). -/
def State.dueBoundaries (s : State) : List Instr :=
  dueIf s.secondDue.isSome .secondBoundary ++ dueIf s.epochDue .epochBoundary

/-- The report that ends draining (R84, R132). -/
def State.dueDraining (s : State) : List Instr :=
  match s.store.draining with
  | some d => dueIf (s.table.nonClosed d.generation == 0) .drainingEnd
  | none => []

/-- The intake's next step: the table takes the record that is handed on, or else the arbiter takes an item (R30, R71). -/
def State.dueIntake (s : State) : List Instr :=
  match s.arbiter.handling with
  | some _ => [.tableTakeRecord]
  | none => dueIf s.nextItem.isSome .arbiterTake

/-- The requests in hand at the ports, which their owners are to take (R149). -/
def State.dueRequests (s : State) : List Instr :=
  allPorts.flatMap fun p =>
    match s.ports[p].handler with
    | .inHand c => [c]
    | _ => []

/-- Every event that is due, in the order in which the idle part takes them; none while a reset acts. -/
def State.dueEvents (s : State) : List Instr :=
  if s.operating then
    s.dueTimebase ++ s.dueTimers ++ s.dueGaps ++ s.dueDeadlines ++ s.dueBoundaries ++ s.dueDraining ++ s.dueIntake
      ++ s.dueRequests
  else []

/-- The idle part: the due events are put in the queue; with none due, one oscillator period passes (R1). -/
def State.idle (s : State) : State :=
  match s.dueEvents with
  | [] => s.whileOperating State.tick
  | c :: cs => { s with pending := c :: cs }

end Sys2Proof.Machine
end

