-- ==== Sys2Proof/Machine/Dispatch.lean ====
section
/-! DEFINITION. The dispatch: each command's meaning, one arm per constructor. -/

namespace Sys2Proof.Machine

/-- The effect of a command on everything but the queue. -/
def exec (i : Instr) (s : State) : Host.Outcome State Fault Refusal :=
  match i with
  | .powerOn => Sys2Proof.Machine.execPowerOn s
  | .resetLine => Sys2Proof.Machine.execResetLine s
  | .resetLineRelease => Sys2Proof.Machine.execResetLineRelease s
  | .timeMessage line => Sys2Proof.Machine.execTimeMessage line s
  | .ppsEdge => Sys2Proof.Machine.execPpsEdge s
  | .ppsLossTimerExpiry => Sys2Proof.Machine.execPpsLossTimerExpiry s
  | .holdoverLimitExpiry => Sys2Proof.Machine.execHoldoverLimitExpiry s
  | .slewEnd => Sys2Proof.Machine.execSlewEnd s
  | .pauseEnd => Sys2Proof.Machine.execPauseEnd s
  | .secondBoundary => Sys2Proof.Machine.execSecondBoundary s
  | .epochBoundary => Sys2Proof.Machine.execEpochBoundary s
  | .fastDeadlineExpiry e => Sys2Proof.Machine.execFastDeadlineExpiry e s
  | .fullDeadlineExpiry e => Sys2Proof.Machine.execFullDeadlineExpiry e s
  | .drainingEnd => Sys2Proof.Machine.execDrainingEnd s
  | .laneFrameArrival l line => Sys2Proof.Machine.execLaneFrameArrival l line s
  | .laneSilenceTimerExpiry l => Sys2Proof.Machine.execLaneSilenceTimerExpiry l s
  | .commandFrameSent l => Sys2Proof.Machine.execCommandFrameSent l s
  | .arbiterTake => Sys2Proof.Machine.execArbiterTake s
  | .tableTakeRecord => Sys2Proof.Machine.execTableTakeRecord s
  | .commandTimeout k => Sys2Proof.Machine.execCommandTimeout k s
  | .streamSilenceTimerExpiry k => Sys2Proof.Machine.execStreamSilenceTimerExpiry k s
  | .quietTimerExpiry k => Sys2Proof.Machine.execQuietTimerExpiry k s
  | .claimTimerExpiry => Sys2Proof.Machine.execClaimTimerExpiry s
  | .requestFrameArrival p line => Sys2Proof.Machine.execRequestFrameArrival p line s
  | .responseSent p => Sys2Proof.Machine.execResponseSent p s
  | .status p tag => Sys2Proof.Machine.execStatus p tag s
  | .readConditions p tag => Sys2Proof.Machine.execReadConditions p tag s
  | .setMask p tag count kinds => Sys2Proof.Machine.execSetMask p tag count kinds s
  | .subscribe p tag kinds start count indices => Sys2Proof.Machine.execSubscribe p tag kinds start count indices s
  | .readSnapshotNext p tag kind unused => Sys2Proof.Machine.execReadSnapshotNext p tag kind unused s
  | .readSnapshotSequence p tag kind target seq => Sys2Proof.Machine.execReadSnapshotSequence p tag kind target seq s
  | .readRosterState p tag => Sys2Proof.Machine.execReadRosterState p tag s
  | .readStreamDetail p tag index => Sys2Proof.Machine.execReadStreamDetail p tag index s
  | .readWorstLatency p tag => Sys2Proof.Machine.execReadWorstLatency p tag s
  | .readLanes p tag => Sys2Proof.Machine.execReadLanes p tag s
  | .profileCursor p tag selector address mode => Sys2Proof.Machine.execProfileCursor p tag selector address mode s
  | .profileGet p tag count => Sys2Proof.Machine.execProfileGet p tag count s
  | .profilePut p tag values => Sys2Proof.Machine.execProfilePut p tag values s
  | .beginEdit p tag => Sys2Proof.Machine.execBeginEdit p tag s
  | .abandonEdit p tag => Sys2Proof.Machine.execAbandonEdit p tag s
  | .commitSwitchAtSecond p tag mode second => Sys2Proof.Machine.execCommitSwitchAtSecond p tag mode second s
  | .commitSwitchNow p tag ignored => Sys2Proof.Machine.execCommitSwitchNow p tag ignored s
  | .cancelSwitch p tag => Sys2Proof.Machine.execCancelSwitch p tag s
  | .streamCommand p tag index action => Sys2Proof.Machine.execStreamCommand p tag index action s
  | .releaseStream p tag index => Sys2Proof.Machine.execReleaseStream p tag index s
  | .acceptReference p tag => Sys2Proof.Machine.execAcceptReference p tag s
  | .clearAlignment p tag => Sys2Proof.Machine.execClearAlignment p tag s
  | .portReset p tag => Sys2Proof.Machine.execPortReset p tag s
  | .supplyBelowLimit => Sys2Proof.Machine.execSupplyBelowLimit s
  | .powerOnExit => Sys2Proof.Machine.execPowerOnExit s

end Sys2Proof.Machine
end

