-- ==== Sys2Proof/Safety.lean ====
section
/-! DEFINITION. The terms in which the statements speak: what an event does to a port, what a request's answer does to
its port, and the invariants that every step keeps. -/

namespace Sys2Proof.Machine

/-! ### Ports -/

/-- Port `q'` is port `q` with the kinds `ks` raised into its latched set and nothing else changed (R175). -/
def Raised (ks : List Kind) (q q' : Port) : Prop :=
  q' = { q with latched := q'.latched } ∧
    ∀ k : Kind, kindIn k q'.latched = (kindIn k q.latched || ks.contains k)

/-- The kinds `ks` are raised into all three ports, and nothing else in them changes. -/
def RaisedInAll (ks : List Kind) (s t : State) : Prop := ∀ p : PortId, Raised ks s.ports[p] t.ports[p]

/-- Every port but `p` is as it was. -/
def OtherPortsSame (p : PortId) (s t : State) : Prop := ∀ q : PortId, q ≠ p → t.ports[q] = s.ports[q]

/-- The part operates and the request handler of port `p` is IDLE, so that a request of the port is taken (R149). -/
abbrev Serves (s : State) (p : PortId) : Prop := s.operating = true ∧ s.ports[p].handler = .idle

/-- Port `q` after its request has been taken and answered: EXECUTING, the taken count one higher, the response at the
tail of the outbound queue (R149, R150, R151). -/
def answered (tag : Byte) (code : Code) (result : Result) (q : Port) : Port :=
  { q with
    handler := .responding
    takenCount := q.takenCount + 1
    outbound := q.outbound ++ [{ tag := tag, reply := { code := code, result := result }, ofRequest := true }] }

/-- A request of port `p` answered with a code and a result, no other port changed; `q` is the port with the request's
own effect on it. -/
def AnsweredAt (p : PortId) (tag : Byte) (code : Code) (result : Result) (q : Port) (s t : State) : Prop :=
  t.ports[p] = answered tag code result q ∧ OtherPortsSame p s t

/-- A refused request: its port is answered with the code and an empty payload, and nothing else changes. -/
def Refuses (p : PortId) (tag : Byte) (code : Code) (s t : State) : Prop :=
  t = { s with ports := t.ports } ∧ AnsweredAt p tag code .empty s.ports[p] s t

/-! ### The timebase -/

/-- A PPS edge now is a valid PPS with the announced second `x` (R7): the latest message is valid, and it names `x`, or
no message has come since the previous taken PPS, whose announced second was `x − 1`. -/
def ValidPps (s : State) (x : Nat) : Prop :=
  s.operating = true ∧ ∃ m, s.timebase.latest = some m ∧ m.valid = true ∧
    ((s.timebase.messageSincePps = true ∧ m.marked = x) ∨
     (s.timebase.messageSincePps = false ∧ ∃ y, s.timebase.prevSecond = some y ∧ y < 4294967295 ∧ x = y + 1))

/-- The error of a PPS in ns: its announced second, as (x, 0), minus local time (R9). -/
def errorOf (x : Nat) (t : LocalTime) : Int := (x : Int) * 1000000000 - ((t.second : Int) * 1000000000 + t.ns)

/-- The timebase as every valid PPS that leaves it LOCKED leaves it, but for local time, the correction, acceptance and
the last second event: announced second noted, loss timer to 2 s from now, holdover limit stopped, no rejected error. -/
def lockedBy (x : Nat) (tb : Timebase) : Timebase :=
  { tb with
    state := .locked
    lossTimer := some (tb.elapsed + 200000000)
    holdoverTimer := none
    rejectedError := none
    prevSecond := some x
    messageSincePps := false }

/-- The kinds raised by entering a timebase state from another (R21). -/
def changeKinds (old new : TimeState) : List Kind := if old = new then [] else [.referenceChange]

/-- No slot has a deadline that local time `t` has reached and that has not made the slot ready (R78, R79). -/
def DeadlinesTaken (t : LocalTime) (slots : List Slot) : Prop :=
  ∀ sl ∈ slots, (sl.fastDeadline.reached t = true → sl.fastReady.isSome = true) ∧
    (sl.fullDeadline.reached t = true → sl.fullReady.isSome = true)

/-! ### The idle part -/

/-- An event is due: the command that says so would have its effect now.  Timers (R1, R5, R10, R12, R26, R93, R95, R123,
R142), deadlines (R3, R78), boundaries (R17, R18), the end of draining (R84, R132), the intake (R30, R71), gaps (R147,
R185, R187) and the requests in hand (R149). -/
inductive Due (s : State) : Instr → Prop where
  | ppsLoss (d : Nat) (h : s.timebase.lossTimer = some d) (past : d ≤ s.timebase.elapsed) : Due s .ppsLossTimerExpiry
  | holdover (d : Nat) (h : s.timebase.holdoverTimer = some d) (past : d ≤ s.timebase.elapsed) :
    Due s .holdoverLimitExpiry
  | slew (e : Int) (start : Nat) (h : s.timebase.correction = .slew e start)
    (past : start + 100000000 ≤ s.timebase.elapsed) : Due s .slewEnd
  | pause (ends : Nat) (h : s.timebase.correction = .pause ends) (past : ends ≤ s.timebase.elapsed) : Due s .pauseEnd
  | laneSilence (l : LaneId) (d : Nat) (h : s.lanes[l].silenceTimer = some d) (past : d ≤ s.timebase.elapsed) :
    Due s (.laneSilenceTimerExpiry l)
  | streamSilence (i : StreamId) (d : Nat) (h : s.supervisor.streams[i].silenceTimer = some d)
    (past : d ≤ s.timebase.elapsed) : Due s (.streamSilenceTimerExpiry i)
  | quiet (i : StreamId) (d : Nat) (h : s.supervisor.streams[i].quietTimer = some d) (past : d ≤ s.timebase.elapsed) :
    Due s (.quietTimerExpiry i)
  | timeout (i : StreamId) (c : CommandSlot) (h : s.relay.slots[i] = some c) (past : c.timeout ≤ s.timebase.elapsed) :
    Due s (.commandTimeout i)
  | claim (c : Claim) (h : s.store.claim = some c) (past : c.expires ≤ s.timebase.elapsed) : Due s .claimTimerExpiry
  | timeGap (got : List Byte) (last : Nat) (h : s.timebase.rx = .receiving got last)
    (past : last + 500000 < s.timebase.elapsed) : Due s (.timeMessage [])
  | laneGap (l : LaneId) (got : List Byte) (last : Nat) (h : s.lanes[l].rx = .receiving got last)
    (past : last + 1000 < s.timebase.elapsed) : Due s (.laneFrameArrival l [])
  | portGap (p : PortId) (got : List Byte) (last : Nat) (h : s.ports[p].rx = .receiving got last)
    (past : last + 100000 < s.timebase.elapsed) : Due s (.requestFrameArrival p [])
  | fastDeadline (t : LocalTime) (sl : Slot) (h : s.timebase.localTime = some t)
    (runs : s.timebase.correction.isPause = false) (mem : sl ∈ s.table.slots) (past : sl.fastDeadline.reached t = true)
    (cut : sl.fastCut = none) (ready : sl.fastReady = none) : Due s (.fastDeadlineExpiry sl.key)
  | fullDeadline (t : LocalTime) (sl : Slot) (h : s.timebase.localTime = some t)
    (runs : s.timebase.correction.isPause = false) (mem : sl ∈ s.table.slots) (past : sl.fullDeadline.reached t = true)
    (cut : sl.fastCut = none ∨ sl.fullCut = none) (ready : sl.fullReady = none) : Due s (.fullDeadlineExpiry sl.key)
  | second (t : LocalTime) (h : s.timebase.localTime = some t) (runs : s.timebase.correction.isPause = false)
    (fresh : s.timebase.lastSecondEvent ≠ some t.second) : Due s .secondBoundary
  | epoch (c : EpochKey) (h : s.currentEpoch = some c) (runs : s.timebase.correction.isPause = false)
    (fresh : ∀ k, s.table.horizon = some k → EpochKey.older k c) : Due s .epochBoundary
  | draining (d : Draining) (h : s.store.draining = some d)
    (drained : ∀ sl ∈ s.table.slots, sl.generation = d.generation → sl.state = .closed) : Due s .drainingEnd
  | take (r : PlacedRecord) (h : s.arbiter.handling = some r) : Due s .tableTakeRecord
  | serve (l : LaneId) (h : s.arbiter.handling = none) (waits : s.lanes[l].queue ≠ []) : Due s .arbiterTake
  | request (p : PortId) (c : Instr) (h : s.ports[p].handler = .inHand c) : Due s c

/-- How far local time advances in the oscillator period that ends at the elapsed time `now`, in ns: 10 ns and, while a
slew of `e` ns begun at `start` runs, the part of it that falls into the period, the part applied after `t` being
e × t / 1 s truncated toward zero to a multiple of 10 ns (R2, R10); nothing in a pause (R12). -/
def periodAdvance (c : Correction) (now : Nat) : Nat :=
  let applied := fun (e : Int) (t : Nat) => 10 * Int.tdiv (e * t) 1000000000
  match c with
  | .none => 10
  | .slew e start =>
    if now - start ≤ 100000000 then (10 + (applied e (now - start) - applied e (now - start - 1))).toNat else 10
  | .pause _ => 0

/-! ### Profiles -/

/-- Bank `b` is the placement bank of second `x` (R42). -/
def PlacementBank (ps : ProfileStore) (b : BankId) (x : Nat) : Prop :=
  ∃ a, ps.active = some a ∧
    ((∃ S, ps.pendingSwitch = some S ∧ b = if S ≤ x then ps.standby else a) ∨
     (ps.pendingSwitch = none ∧ ∃ d, ps.draining = some d ∧ b = if x < d.second then ps.standby else a) ∨
     (ps.pendingSwitch = none ∧ ps.draining = none ∧ b = a ∧ ∀ S, ps.lastSwitch = some S → S ≤ x))

/-- Bank `b` governs second `x`, and a slot of that second carries generation `g` (R67, R115). -/
def Governs (ps : ProfileStore) (b : BankId) (g : Generation) (x : Nat) : Prop :=
  ∃ a, ps.active = some a ∧
    ((∃ S, ps.pendingSwitch = some S ∧ b = (if S ≤ x then ps.standby else a) ∧
        g = if S ≤ x then ps.generation + 1 else ps.generation) ∨
     (ps.pendingSwitch = none ∧ ∃ d, ps.draining = some d ∧ b = (if x < d.second then ps.standby else a) ∧
        g = if x < d.second then d.generation else ps.generation) ∨
     (ps.pendingSwitch = none ∧ ps.draining = none ∧ b = a ∧ g = ps.generation))

/-- Index `i` of bank `b` has a supervised stream: `b` is active, or both banks put the same station there (R44, R68, R81,
R117). -/
def Supervised (ps : ProfileStore) (b : BankId) (i : StreamId) : Prop :=
  ps.active = some b ∨ ∃ a, ps.active = some a ∧ (ps.bank a).enabled i = true ∧ (ps.bank b).enabled i = true ∧
    (ps.bank a).station i = (ps.bank b).station i

/-- The item at an address of a bank fails its check, the roster-wide check apart (R126, R127). -/
inductive FailsAt (b : Bank) : Nat → Prop where
  | rate (h : b.rate ∉ [10, 12, 15, 20, 25, 30, 50, 60, 100, 120]) : FailsAt b 0
  | nominal (h : ¬ (b.nominal = 50 ∧ b.rate ∈ [10, 25, 50, 100]) ∧
      ¬ (b.nominal = 60 ∧ b.rate ∈ [10, 12, 15, 20, 30, 60, 120])) : FailsAt b 1
  | fixedWait (h : b.fullWait < b.fixedWait) : FailsAt b 2
  | fullWait (h : b.fullWait < 20 ∨ 3000 < b.fullWait ∨ 446 * 1000 < b.fullWait * b.rate) : FailsAt b 3
  | adaptive (h : 1 < b.global 4) : FailsAt b 4
  | fastMin (h : b.fastMax < b.fastMin) : FailsAt b 5
  | fastMax (h : b.fullWait < b.fastMax) : FailsAt b 6
  | margin (h : 500 < b.margin) : FailsAt b 7
  | tolerance (h : b.tolerance < 1 ∨ 500 < b.tolerance) : FailsAt b 8
  | silence (h : b.silenceLimit < 1 ∨ 60 < b.silenceLimit) : FailsAt b 9
  | threshold (h : 14 < b.threshold) : FailsAt b 10
  | label (h : 65535 < b.label.toNat) : FailsAt b 11
  | enabled (i : StreamId) (h : 1 < b.item i 0) : FailsAt b (16 + 16 * i.val)
  | station (i : StreamId) (on : b.enabled i = true) (h : b.station i < 1 ∨ 65534 < b.station i ∨
      ∃ j : StreamId, j < i ∧ b.enabled j = true ∧ b.station j = b.station i) : FailsAt b (16 + 16 * i.val + 1)
  | streamRate (i : StreamId) (on : b.enabled i = true)
    (h : (¬ (b.nominal = 50 ∧ b.streamRate i ∈ [10, 25, 50, 100]) ∧
        ¬ (b.nominal = 60 ∧ b.streamRate i ∈ [10, 12, 15, 20, 30, 60, 120])) ∨
      (b.rate % b.streamRate i ≠ 0 ∧ b.streamRate i % b.rate ≠ 0)) : FailsAt b (16 + 16 * i.val + 2)
  | gating (i : StreamId) (on : b.enabled i = true) (h : 1 < b.item i 3) : FailsAt b (16 + 16 * i.val + 3)
  | correction (i : StreamId) (on : b.enabled i = true) (h : 1 < b.item i 4) : FailsAt b (16 + 16 * i.val + 4)
  | phasors (i : StreamId) (on : b.enabled i = true) (h : b.phasorCount i < 1 ∨ 12 < b.phasorCount i) :
    FailsAt b (16 + 16 * i.val + 5)
  | analogs (i : StreamId) (on : b.enabled i = true) (h : 4 < b.analogCount i) : FailsAt b (16 + 16 * i.val + 6)

/-- An address of a profile item: the twelve global items, and the seven items of each of the 48 stream groups (R116,
R117). -/
def Defined (a : Nat) : Prop := a < 12 ∨ ∃ g k, g < 48 ∧ k < 7 ∧ a = 16 + 16 * g + k

/-- A cursor advance after a run that ended at address `e` lands on address `a` (R121). -/
def LandsOn (e a : Nat) : Prop :=
  (Defined (e + 1) → a = e + 1) ∧ (12 ≤ e + 1 → e + 1 ≤ 15 → a = 16) ∧
  ∀ g, g < 48 → 16 + 16 * g + 7 ≤ e + 1 → e + 1 ≤ 16 + 16 * g + 15 → a = 16 + 16 * (g + 1)

/-! ### The supervisor's second -/

/-- `P` is the peak figure of a stream that is LIVE and gating in bank `b` (R105). -/
def GatingPeak (b : Bank) (streams : Vector StreamRecord 48) (P : Nat) : Prop :=
  ∃ i : StreamId, streams[i].health = .live ∧ b.gating i = true ∧ ∃ k, streams[i].tracker = some k ∧ k.peak = P

/-- Stream `i` is LIVE or LAGGING with the smoothed figure `S` (R107). -/
def Listed (streams : Vector StreamRecord 48) (i : StreamId) (S : Nat) : Prop :=
  (streams[i].health = .live ∨ streams[i].health = .lagging) ∧ ∃ k, streams[i].tracker = some k ∧ k.smoothed = S

/-! ### The intake -/

/-- The idle arbiter would serve lane `l`: its queue is `item :: rest`, and every lane before it in round-robin order
from the position has an empty queue (R30). -/
def ArbiterServes (s : State) (l : LaneId) (item : QueueItem) (rest : List QueueItem) : Prop :=
  s.arbiter.handling = none ∧ s.lanes[l].queue = item :: rest ∧
    ∃ k : Fin 4, l = s.arbiter.position + k ∧ ∀ j : Fin 4, j < k → s.lanes[s.arbiter.position + j].queue = []

/-- The state with the head item of lane `l` gone and the position at the lane after it (R30). -/
def afterTake (s : State) (l : LaneId) (rest : List QueueItem) : State :=
  { s with
    lanes := s.lanes.set l.val { s.lanes[l] with queue := rest }
    arbiter := { s.arbiter with position := l + 1 } }

/-- From `s` to `t` a fault of kind `k` is counted against stream `i`, which is judged and below the fault limit, and
`t` is else as `u` (R94, R96). -/
def TakesFault (k : FaultKind) (i : StreamId) (s u t : State) : Prop :=
  let before := s.supervisor.streams[i]
  t = { u with ports := t.ports, supervisor := { s.supervisor with streams := t.supervisor.streams } } ∧
  (∀ j : StreamId, j ≠ i → t.supervisor.streams[j] = s.supervisor.streams[j]) ∧
  (before.faultCount < 3 →
    t.supervisor.streams[i] = { before with
      faultCount := before.faultCount + 1
      lastFault := some k
      quietTimer := some (s.timebase.elapsed + 6000000000) } ∧
    RaisedInAll [.streamFault] s t) ∧
  (before.faultCount = 3 →
    t.supervisor.streams[i] = { before with
      health := .quarantined
      faultCount := 4
      lastFault := some k
      quietTimer := none
      silenceTimer := none
      missStreak := 0
      onTimeStreak := 0 } ∧
    RaisedInAll [.streamFault, .streamQuarantined] s t)

/-- A stream record after a fault report, in any health (R94, R96): a judged stream counts it, and is quarantined at the
fourth; a QUARANTINED one notes the kind alone; UNCONFIGURED and HALTED discard it.  For a judged record below the fault
limit, as every one is (StreamInv). -/
def faulted (now : Nat) (k : FaultKind) (r : StreamRecord) : StreamRecord :=
  match r.health with
  | .awaiting | .live | .lagging | .silent =>
    if r.faultCount = 3 then
      { r with
        health := .quarantined
        faultCount := 4
        lastFault := some k
        quietTimer := none
        silenceTimer := none
        missStreak := 0
        onTimeStreak := 0 }
    else
      { r with
        faultCount := r.faultCount + 1
        lastFault := some k
        quietTimer := some (now + 6000000000) }
  | .quarantined => { r with lastFault := some k }
  | .unconfigured | .halted => r

/-- The conditions that a fault report raises, by the record it finds (R94, R96). -/
def faultKinds (r : StreamRecord) : List Kind :=
  match r.health with
  | .awaiting | .live | .lagging | .silent =>
    if r.faultCount = 3 then [.streamFault, .streamQuarantined] else [.streamFault]
  | .quarantined => [.streamFault]
  | .unconfigured | .halted => []

/-- The payload of an inbound lane frame is consistent with its type, and no other type is inbound (R24, R184, R185): a
MEASUREMENT with p of 1..12 phasors, a of 0..4 analogs and 18 + 6p + 4a bytes, or an ACKNOWLEDGMENT of 4 bytes with a result
of DONE or REFUSED. -/
def FitsFrame (frameType : Byte) (payload : List Byte) : Prop :=
  (frameType = 0x01 ∧ ∃ counts analogs : Byte, payload[10]? = some counts ∧ payload[11]? = some analogs ∧
    1 ≤ counts.toNat % 16 ∧ counts.toNat % 16 ≤ 12 ∧ analogs.toNat ≤ 4 ∧
    payload.length = 18 + 6 * (counts.toNat % 16) + 4 * analogs.toNat) ∨
  (frameType = 0x02 ∧ payload.length = 4 ∧ (payload[3]? = some 0x00 ∨ payload[3]? = some 0x01))

/-! ### Placing a record -/

/-- The record names an instant and its time is good (R47). -/
def TimeSound (r : Record) : Prop := r.quality ≠ 15 ∧ r.fraction.toNat < 1000000000

/-- The record has the shape that bank `b` gives stream `i` (R48). -/
def ShapeFits (b : Bank) (i : StreamId) (r : Record) : Prop :=
  r.phasors.length = b.phasorCount i ∧ r.analogs.length = b.analogCount i

/-- The grid index of a record at a stream rate, a half going up (R49). -/
def gridOf (rate : Nat) (r : Record) : Nat := (r.fraction.toNat * rate + 500000000) / 1000000000

/-- The scaled offset of a record at a stream rate (R49). -/
def offsetOf (rate : Nat) (r : Record) : Int :=
  ((r.fraction.toNat * rate : Nat) : Int) - ((gridOf rate r * 1000000000 : Nat) : Int)

/-- The record passes the time, shape and tolerance checks of bank `b` for stream `i` (R47, R48, R51). -/
def Sound (b : Bank) (i : StreamId) (r : Record) : Prop :=
  TimeSound r ∧ ShapeFits b i r ∧
    (offsetOf (b.streamRate i) r).natAbs ≤ b.tolerance * 1000 * b.streamRate i

/-- The record of stream `i` under bank `b` is nearest to the instant of epoch `e`, by the second and the grid index after
any rollover (R50, R52). -/
def OnEpoch (b : Bank) (i : StreamId) (r : Record) (e : EpochKey) : Prop :=
  let rate := b.streamRate i
  let j := if gridOf rate r = rate then 0 else gridOf rate r
  e.second = (if gridOf rate r = rate then r.second.toNat + 1 else r.second.toNat) ∧
    ((b.rate < rate ∧ j % (rate / b.rate) = 0 ∧ e.index = j / (rate / b.rate)) ∨
     (rate ≤ b.rate ∧ e.index = j * (b.rate / rate)))

/-- `n` is the epoch after `c` in a second governed at rate `rate`; the last epoch of the era has none (R53). -/
def NextEpoch (rate : Nat) (c n : EpochKey) : Prop :=
  if c.index + 1 < rate then n = ⟨c.second, c.index + 1⟩ else c.second < 4294967295 ∧ n = ⟨c.second + 1, 0⟩

/-- Epoch `e` is ahead: newer than the current epoch `c`, and than the epoch after it where there is one (R53). -/
def Ahead (rate : Nat) (c e : EpochKey) : Prop :=
  EpochKey.older c e ∧ ∀ n, NextEpoch rate c n → EpochKey.older n e

/-- `c` is the turn Δf × δ × 65536 / 10^12 rounded to the nearest integer, a half going away from zero (R54). -/
def IsTurn (freqDev delta c : Int) : Prop :=
  let q := freqDev * delta * 65536
  2 * (c * 1000000000000 - q).natAbs ≤ 1000000000000 ∧
    (2 * (c * 1000000000000 - q).natAbs = 1000000000000 → q.natAbs < (c * 1000000000000).natAbs)

/-! ### Slots and cuts -/

/-- Slot `sl` as an opening in state `s` for epoch `e` under bank `b` and generation `g` makes it, but for its entries, its
readiness and its cuts (R61, R67 to R70).  That an index without a supervised stream counts as AWAITING is R68's rule for
a pending bank and the model's choice for a draining one (log entry 15). -/
def OpenedSlot (s : State) (e : EpochKey) (b : BankId) (g : Generation) (sl : Slot) : Prop :=
  let bank := s.store.bank b
  let wait := if s.supervisor.fastWait.bank = some b then s.supervisor.fastWait.ms
    else if bank.adaptive = true then bank.fastMax else bank.fixedWait
  let after := fun (ms : Nat) (t : LocalTime) =>
    (e.second * 1000000000 + ms * 1000000) * bank.rate + e.index * 1000000000
      ≤ (t.second * 1000000000 + t.ns) * bank.rate
  (sl.key = e ∧ sl.bank = b ∧ sl.generation = g) ∧
  (sl.enabled.Nodup ∧ sl.expected.Nodup ∧ sl.gating.Nodup) ∧
  (∀ i : StreamId,
    let health := s.supervisor.streams[i].health
    (i ∈ sl.enabled ↔ bank.enabled i = true) ∧
    (i ∈ sl.expected ↔ bank.enabled i = true ∧
      (bank.streamRate i < bank.rate → e.index % (bank.rate / bank.streamRate i) = 0) ∧
      (Supervised s.store b i → health = .awaiting ∨ health = .live ∨ health = .lagging)) ∧
    (i ∈ sl.gating ↔ i ∈ sl.expected ∧ bank.gating i = true ∧ (Supervised s.store b i → health ≠ .lagging))) ∧
  (∀ t, (sl.fastDeadline.reached t = true ↔ after wait t) ∧ (sl.fullDeadline.reached t = true ↔ after bank.fullWait t)) ∧
  ((s.timebase.state = .locked → sl.timeClass = 0) ∧ (s.timebase.state = .holdover → sl.timeClass = 1) ∧
    (s.timebase.state = .drifting → sl.timeClass = 2) ∧ (s.timebase.state = .rejected → sl.timeClass = 3)) ∧
  sl.discontinuity = (s.table.mark || match s.table.lastGeneration with
    | some last => last != g
    | none => false)

/-- Every stream of a nonempty set has an entry (R76, R77). -/
def AllPresent (entries : Vector (Option Entry) 48) (set : List StreamId) : Prop :=
  set ≠ [] ∧ ∀ i ∈ set, entries[i].isSome = true

/-- No slot waits for a cut that the release pass would give it: a slot that is ready, behind older slots that all hold the
cut, holds it (R80). -/
def Released (slots : List Slot) : Prop :=
  ∀ pre post sl, slots = pre ++ sl :: post →
    ((∀ o ∈ pre, o.fastCut.isSome = true) → sl.fastReady.isSome = true → sl.fastCut.isSome = true) ∧
    ((∀ o ∈ pre, o.fullCut.isSome = true) → sl.fastCut.isSome = true → sl.fullReady.isSome = true →
      sl.fullCut.isSome = true)

/-- A stream record after a presence report has listed its stream once, PRESENT or MISSING (R100, R101). -/
def reported (present : Bool) (r : StreamRecord) : StreamRecord :=
  let miss := if present then 0 else min (r.missStreak + 1) 8
  let onTime := if present then min (r.onTimeStreak + 1) 8 else 0
  if r.health = .live then
    { r with missStreak := miss, onTimeStreak := onTime, health := if miss = 8 then .lagging else .live }
  else if r.health = .lagging then
    { r with missStreak := miss, onTimeStreak := onTime, health := if onTime = 8 then .live else .lagging }
  else r

/-! ### Snapshots -/

/-- The byte that names a kind of snapshot on the link (R190). -/
def kindByte : SnapKind → Byte
  | .fast => 0
  | .full => 1

/-- The cut of a kind in a slot (R61). -/
def cutOf (k : SnapKind) (sl : Slot) : Option Cut :=
  match k with
  | .fast => sl.fastCut
  | .full => sl.fullCut

/-- The next sequence number of a kind (R83). -/
def nextOf (k : SnapKind) (t : AlignTable) : Nat :=
  match k with
  | .fast => t.nextFast
  | .full => t.nextFull

/-- The retained sequence numbers of a kind, in epoch order, oldest first (R83). -/
def numbersOf (k : SnapKind) (t : AlignTable) : List Nat := t.slots.filterMap fun sl => (cutOf k sl).map Cut.seq

/-- Whether a port is subscribed to a kind (R159). -/
def subscribedTo (k : SnapKind) (q : Port) : Bool :=
  match k with
  | .fast => q.subFast
  | .full => q.subFull

/-- A port's cursor of a kind (R159). -/
def cursorOf (k : SnapKind) (q : Port) : Nat :=
  match k with
  | .fast => q.fastCursor
  | .full => q.fullCursor

/-- A port with its cursor of a kind moved, and nothing else changed (R164). -/
def cursorAt (k : SnapKind) (n : Nat) (q : Port) : Port :=
  match k with
  | .fast => { q with fastCursor := n }
  | .full => { q with fullCursor := n }

/-- Whether the view of a kind shows an entry: the fast view hides a LATE one (R167). -/
def visible (k : SnapKind) (e : Entry) : Bool :=
  match k with
  | .fast => !e.late
  | .full => true

/-- Whether the view of a kind shows an entry as CONFLICTED: the fast view for a conflict before the fast cut, the full
view for any (R167). -/
def conflicted (k : SnapKind) (e : Entry) : Bool :=
  match k with
  | .fast => e.mark == .beforeFastCut
  | .full => e.mark != .none

/-- `snap` is the snapshot of kind `k` that slot `sl` holds, delivered through a filter: the header of R168 and R170, and
the items of R169 in increasing index order. -/
def Delivers (k : SnapKind) (sl : Slot) (skipped : Nat) (filter : List StreamId) (snap : Snapshot) : Prop :=
  (snap.kind = k ∧ (∀ cut, cutOf k sl = some cut → snap.seq = cut.seq ∧ snap.cause = cut.cause) ∧
    snap.key = sl.key ∧ snap.bank = sl.bank ∧ snap.generation = sl.generation ∧ snap.timeClass = sl.timeClass ∧
    snap.discontinuity = sl.discontinuity ∧ snap.expectedCount = sl.expected.length ∧
    snap.presentCount = sl.expected.countP (fun i => (sl.entries[i]).any (visible k)) ∧ snap.skipped = skipped) ∧
  (snap.items.map SnapItem.stream).Pairwise (· < ·) ∧
  (∀ i : StreamId, i ∈ snap.items.map SnapItem.stream ↔ i ∈ filter ∧ i ∈ sl.enabled) ∧
  ∀ it ∈ snap.items,
    (∀ e, sl.entries[it.stream] = some e → visible k e = true →
      it.form = .entry (decide (it.stream ∈ sl.expected)) (decide (it.stream ∈ sl.gating)) e.late (conflicted k e) e) ∧
    ((∀ e, sl.entries[it.stream] = some e → visible k e = false) →
      it.form = if it.stream ∈ sl.expected then .missing (decide (it.stream ∈ sl.gating)) else .notExpected)

/-! ### Requests and commands -/

/-- A payload of `n` bytes is the length that a request code calls for; no length is that of a code that names no request
(R188, R189). -/
def FitsCode (code : Byte) (n : Nat) : Prop :=
  (code.toNat, n) ∈ [(1, 0), (2, 0), (3, 16), (4, 51), (5, 8), (6, 0), (7, 1), (8, 0), (9, 0), (10, 4), (11, 1), (13, 0),
    (14, 0), (15, 5), (16, 0), (17, 2), (18, 1), (19, 0), (20, 0), (21, 0)] ∨
  (code.toNat = 12 ∧ ∃ k, 1 ≤ k ∧ k ≤ 64 ∧ n = 4 * k)

/-- Lane `l` is the route of stream `i`: its last lane when that is UP, and for a HALTED stream whose last lane is absent or
DOWN the lowest-numbered lane that is UP (R136). -/
def Routes (s : State) (i : StreamId) (l : LaneId) : Prop :=
  s.lanes[l].up = true ∧
    (s.supervisor.streams[i].lastLane = some l ∨
     (s.supervisor.streams[i].health = .halted ∧
      (∀ m : LaneId, s.supervisor.streams[i].lastLane = some m → s.lanes[m].up = false) ∧
      ∀ m : LaneId, m < l → s.lanes[m].up = false))

/-! ### Invariants -/

/-- The profile store (R114, R115, R122, R128, R132): the standby bank is the other bank; a bank in service has passed
validation; a pending switch stands alone, with a validated bank; draining excludes a claim. -/
def StoreInv (ps : ProfileStore) : Prop :=
  (∀ a, ps.active = some a → ps.standby ≠ a ∧ (ps.bank a).failing = none) ∧
  (ps.pendingSwitch.isSome = true →
    ps.active.isSome = true ∧ ps.claim = none ∧ ps.draining = none ∧ (ps.bank ps.standby).failing = none) ∧
  (ps.draining.isSome = true → ps.active.isSome = true ∧ ps.claim = none)

/-- One slot of the table (R61, R62, R76, R77, R81, R82): its cuts carry the causes of its readiness, no full readiness
is GATING, a full cut follows a fast cut, its sets are nested, and LATE and AFTER_FAST_CUT stand only behind a fast
cut. -/
def SlotInv (sl : Slot) : Prop :=
  (sl.fullCut.isSome = true → sl.fastCut.isSome = true) ∧
  (∀ c, sl.fastCut = some c → sl.fastReady = some c.cause) ∧
  (∀ c, sl.fullCut = some c → sl.fullReady = some c.cause) ∧
  sl.fullReady ≠ some .gating ∧
  sl.gating ⊆ sl.expected ∧ sl.expected ⊆ sl.enabled ∧
  (∀ i : StreamId, ∀ e, sl.entries[i] = some e →
    (e.late = true ∨ e.mark = .afterFastCut) → sl.fastCut.isSome = true)

/-- The numbers in a list run without a gap up to the one before `next`, from 1 or more (R83). -/
def RunUpTo (next : Nat) (l : List Nat) : Prop := ∃ n, n < next ∧ l = List.range' (next - n) n

/-- The alignment table (R20, R60, R63, R80, R83): slots stand in epoch order, none newer than H, under distinct slot
numbers; cuts are in epoch order and the retained numbers of each kind form one run up to the next number; outside
ALIGNING there is no slot. -/
def TableInv (s : State) : Prop :=
  (∀ sl ∈ s.table.slots, SlotInv sl) ∧
  s.table.slots.Pairwise (fun a b => EpochKey.older a.key b.key) ∧
  (∀ sl ∈ s.table.slots, ∃ h, s.table.horizon = some h ∧ ¬ EpochKey.older h sl.key) ∧
  (s.table.slots.map Slot.number).Nodup ∧
  s.table.slots.Pairwise (fun a b => b.fastCut.isSome = true → a.fastCut.isSome = true) ∧
  s.table.slots.Pairwise (fun a b => b.fullCut.isSome = true → a.fullCut.isSome = true) ∧
  RunUpTo s.table.nextFast (s.table.slots.filterMap fun sl => sl.fastCut.map Cut.seq) ∧
  RunUpTo s.table.nextFull (s.table.slots.filterMap fun sl => sl.fullCut.map Cut.seq) ∧
  (s.store.active = none ∨ s.timebase.localTime = none → s.table.slots = [])

/-- The cursors of every port are at or below the next sequence numbers (R159). -/
def CursorInv (s : State) : Prop :=
  ∀ p : PortId, s.ports[p].fastCursor ≤ s.table.nextFast ∧ s.ports[p].fullCursor ≤ s.table.nextFull

/-- One stream record (R89 to R101): its ranges; QUARANTINED stands at the fault limit and a judged stream below it; the
two timers run exactly in the states their rules give; LIVE and LAGGING have a tracker; UNCONFIGURED holds nothing. -/
def StreamInv (r : StreamRecord) : Prop :=
  r.faultCount ≤ 4 ∧ r.missStreak ≤ 8 ∧ r.onTimeStreak ≤ 8 ∧
  (r.health = .quarantined → r.faultCount = 4) ∧
  (r.health.judged = true → r.faultCount ≤ 3) ∧
  (r.silenceTimer.isSome = true ↔ r.health.expected = true) ∧
  (r.quietTimer.isSome = true ↔ r.health.judged = true ∧ 1 ≤ r.faultCount) ∧
  (r.health = .live ∨ r.health = .lagging → r.tracker.isSome = true) ∧
  (r.health = .unconfigured → r = StreamRecord.unconfigured)

/-- The stream supervisor (R91, R105, R106, R107): UNCONFIGURED is exactly the indices the active bank does not enable;
the fast wait in force was set for the active bank and keeps its bounds; the worst-latency list has at most four
indices, none twice. -/
def SupervisorInv (s : State) : Prop :=
  (∀ i : StreamId, StreamInv s.supervisor.streams[i] ∧
    (s.supervisor.streams[i].health = .unconfigured ↔ s.store.activeEnabled i = false)) ∧
  s.supervisor.fastWait.bank = s.store.active ∧
  (∀ a, s.store.active = some a →
    s.supervisor.fastWait.ms ≤ (s.store.bank a).fullWait ∧
    ((s.store.bank a).adaptive = true →
      (s.store.bank a).fastMin ≤ s.supervisor.fastWait.ms ∧ s.supervisor.fastWait.ms ≤ (s.store.bank a).fastMax)) ∧
  s.supervisor.worst.length ≤ 4 ∧ s.supervisor.worst.Nodup

/-- The timebase (R2, R5, R7, R14, R15, R16): local time is set outside UNSET and stays on its 10 ns grid within the
era; each timer runs in its state; a rejected error stands in REJECTED alone, ARMED too, and HELD governs a pause in
LOCKED; no correction runs in UNSET or REJECTED. -/
def TimebaseInv (tb : Timebase) : Prop :=
  (tb.state = .unset ↔ tb.localTime = none) ∧
  (∀ t, tb.localTime = some t → t.second < 2 ^ 32 ∧ t.ns < 1000000000 ∧ t.ns % 10 = 0) ∧
  (tb.lossTimer.isSome = true ↔ tb.state = .locked) ∧
  (tb.holdoverTimer.isSome = true ↔ tb.state = .holdover) ∧
  (tb.rejectedError.isSome = true ↔ tb.state = .rejected) ∧
  (tb.acceptance = .armed → tb.state = .rejected) ∧
  (tb.acceptance = .held → tb.state = .locked ∧ tb.correction.isPause = true) ∧
  (tb.state = .unset ∨ tb.state = .rejected → tb.correction = .none) ∧
  (∀ m, tb.latest = some m → m.marked < 2 ^ 32) ∧
  (∀ x, tb.prevSecond = some x → x < 2 ^ 32) ∧
  (tb.messageSincePps = true → tb.latest.isSome = true) ∧
  (tb.latest.isSome = true → tb.messageSincePps = false → tb.prevSecond.isSome = true) ∧
  (tb.state ≠ .unset → tb.latest.isSome = true)

/-- The queues and the command slots (R27, R29, R135, R136, R149, R150): no queue is longer than its limit, at most three
BUSY answers wait at a port, the executing request's response waits exactly while the handler has composed it, no two
PENDING commands are for one station, and a command's timeout is 2 s after its issue. -/
def LinkInv (s : State) : Prop :=
  (∀ l : LaneId, s.lanes[l].queue.length ≤ 32 ∧ s.lanes[l].queue.length ≤ s.lanes[l].deepest ∧
    s.lanes[l].deepest ≤ 32 ∧ s.lanes[l].outbound.length ≤ 16) ∧
  (∀ p : PortId, s.ports[p].outbound.length ≤ 4 ∧ (s.ports[p].outbound.countP fun f => !f.ofRequest) ≤ 3 ∧
    (s.ports[p].outbound.countP fun f => f.ofRequest) = if s.ports[p].handler = .responding then 1 else 0) ∧
  (∀ i j : StreamId, ∀ c d, s.relay.slots[i] = some c → s.relay.slots[j] = some d → i ≠ j → c.station ≠ d.station) ∧
  (∀ i : StreamId, ∀ c, s.relay.slots[i] = some c → c.timeout = c.issued + 200000000)

/-- The commands that reset the part: power-on, a supply failure and the reset line (R191). -/
def Instr.isReset : Instr → Bool
  | .powerOn => true
  | .supplyBelowLimit => true
  | .resetLine => true
  | _ => false

end Sys2Proof.Machine
end

