-- ==== Sys2Proof/WellFormed.lean ====
section
/-! DEFINITION. Which commands the lines and the link can spell: the argument fields that a consumer frame of the
request's length carries (R188), the target and mode bytes that tell two rows of one request apart, and the range of
an epoch key. -/

namespace Sys2Proof

/-- An epoch key that can name an epoch: its second is a second of the era (R2) and its index is below the greatest
release rate, 120 (R126). -/
abbrev EpochKey.inEra (e : EpochKey) : Prop := e.second < 2 ^ 32 ∧ e.index < 120

/-- The well-formed commands.  SET MASK carries 15 kind bytes and SUBSCRIBE 48 index bytes, used or not (R188);
PROFILE PUT carries 1..64 values (R120); READ SNAPSHOT with target byte 0 is READ_SNAPSHOT_NEXT and COMMIT SWITCH with
mode byte 0 is COMMIT_SWITCH_NOW (R190), so the other row of each carries another byte. -/
def Instr.WellFormed : Instr → Bool
  | .powerOn => true
  | .resetLine => true
  | .resetLineRelease => true
  | .timeMessage _ => true
  | .ppsEdge => true
  | .ppsLossTimerExpiry => true
  | .holdoverLimitExpiry => true
  | .slewEnd => true
  | .pauseEnd => true
  | .secondBoundary => true
  | .epochBoundary => true
  | .fastDeadlineExpiry e => decide e.inEra
  | .fullDeadlineExpiry e => decide e.inEra
  | .drainingEnd => true
  | .laneFrameArrival _ _ => true
  | .laneSilenceTimerExpiry _ => true
  | .commandFrameSent _ => true
  | .arbiterTake => true
  | .tableTakeRecord => true
  | .commandTimeout _ => true
  | .streamSilenceTimerExpiry _ => true
  | .quietTimerExpiry _ => true
  | .claimTimerExpiry => true
  | .requestFrameArrival _ _ => true
  | .responseSent _ => true
  | .status _ _ => true
  | .readConditions _ _ => true
  | .setMask _ _ _ kinds => kinds.length == 15
  | .subscribe _ _ _ _ _ indices => indices.length == 48
  | .readSnapshotNext _ _ _ _ => true
  | .readSnapshotSequence _ _ _ target _ => target != 0
  | .readRosterState _ _ => true
  | .readStreamDetail _ _ _ => true
  | .readWorstLatency _ _ => true
  | .readLanes _ _ => true
  | .profileCursor _ _ _ _ _ => true
  | .profileGet _ _ _ => true
  | .profilePut _ _ values => 1 ≤ values.length && values.length ≤ 64
  | .beginEdit _ _ => true
  | .abandonEdit _ _ => true
  | .commitSwitchAtSecond _ _ mode _ => mode != 0
  | .commitSwitchNow _ _ _ => true
  | .cancelSwitch _ _ => true
  | .streamCommand _ _ _ _ => true
  | .releaseStream _ _ _ => true
  | .acceptReference _ _ => true
  | .clearAlignment _ _ => true
  | .portReset _ _ => true
  | .supplyBelowLimit => true
  | .powerOnExit => true

end Sys2Proof
end

