-- ==== Sys2Proof/Certificates/Slice0/Obligations.lean ====
section
/-! DEFINITION. The statements about the KB748, each a proposition for the provers. -/

open Sys2Proof Sys2Proof.Machine

/-! ### The queue, resets -/

/-- A step runs the command at the front of the queue with the queue's rest (the block's own form of a step). -/
def Obligations.StepRunsFrontCommand : Prop :=
  ∀ (c : Instr) (rest : List Instr) (s : State),
    step { s with pending := c :: rest } = exec c { s with pending := rest }

/-- Every command completes in every state, and none touches the queue.  The queue is the model's own (log entry 2); that an
event row whose event is not due completes without an effect rests on log entry 1, and that a request row with a list
of a wrong length completes with MALFORMED on log entry 23. -/
def Obligations.EveryCommandCompletes : Prop :=
  ∀ (c : Instr) (s : State), ∃ t, exec c s = .next t ∧ t.pending = s.pending

/-- What reset leaves: the power-on columns of R23, R39, R88, R113, R134, R146, R158 and R182. -/
def Obligations.ResetValues : Prop :=
  let s := State.reset
  (s.timebase.localTime = none ∧ s.timebase.elapsed = 0 ∧ s.timebase.state = .unset ∧ s.timebase.correction = .none ∧
    s.timebase.acceptance = .none ∧ s.timebase.rejectedError = none ∧ s.timebase.latest = none ∧
    s.timebase.messageSincePps = false ∧ s.timebase.prevSecond = none ∧ s.timebase.lossTimer = none ∧
    s.timebase.holdoverTimer = none ∧ s.timebase.rx = .hunting) ∧
  (∀ l : LaneId, s.lanes[l].up = false ∧ s.lanes[l].silenceTimer = none ∧ s.lanes[l].lastValid = none ∧
    s.lanes[l].queue = [] ∧ s.lanes[l].deepest = 0 ∧ s.lanes[l].outbound = [] ∧ s.lanes[l].validCount = 0 ∧
    s.lanes[l].discardCount = 0 ∧ s.lanes[l].overflowCount = 0 ∧ s.lanes[l].sentCount = 0 ∧ s.lanes[l].dropCount = 0) ∧
  (s.arbiter.position = 0 ∧ s.arbiter.handling = none) ∧
  (s.table.slots = [] ∧ s.table.nextFast = 1 ∧ s.table.nextFull = 1 ∧ s.table.horizon = none ∧ s.table.mark = false ∧
    s.table.lastGeneration = none) ∧
  ((∀ i : StreamId, s.supervisor.streams[i].health = .unconfigured ∧ s.supervisor.streams[i].faultCount = 0 ∧
    s.supervisor.streams[i].silenceTimer = none ∧ s.supervisor.streams[i].quietTimer = none ∧
    s.supervisor.streams[i].lastFault = none ∧ s.supervisor.streams[i].lastAccepted = none ∧
    s.supervisor.streams[i].missStreak = 0 ∧ s.supervisor.streams[i].onTimeStreak = 0 ∧
    s.supervisor.streams[i].lastLane = none ∧ s.supervisor.streams[i].tracker = none) ∧
    s.supervisor.worst = [] ∧ s.supervisor.worstSecond = none ∧ s.supervisor.fastWait = ⟨0, none⟩) ∧
  ((∀ (b : BankId) (a : ItemPlace), (s.store.bank b).read a = 0) ∧ s.store.active = none ∧ s.store.standby = 0 ∧
    s.store.generation = 0 ∧ s.store.lastSwitch = none ∧ s.store.claim = none ∧ s.store.pendingSwitch = none ∧
    s.store.draining = none) ∧
  (∀ i : StreamId, s.relay.slots[i] = none ∧ s.relay.tags[i] = 0) ∧
  (∀ p : PortId, s.ports[p].rx = .hunting ∧ s.ports[p].handler = .idle ∧ s.ports[p].outbound = [] ∧
    s.ports[p].takenCount = 0 ∧ s.ports[p].busyCount = 0 ∧ s.ports[p].discardCount = 0 ∧ s.ports[p].skippedCount = 0 ∧
    s.ports[p].subFast = false ∧ s.ports[p].subFull = false ∧ s.ports[p].fastCursor = 1 ∧ s.ports[p].fullCursor = 1 ∧
    s.ports[p].filter = [] ∧ s.ports[p].mask = 0 ∧ s.ports[p].latched = 0 ∧
    (∀ i : StreamId, s.ports[p].watch[i] = .unconfigured) ∧ s.ports[p].outcome = none ∧
    s.ports[p].cursor = ⟨.active, 0, .none⟩ ∧ attention s p = false) ∧
  s.pending = []

/-- Power-on, its end and a supply failure (R191): every block takes its power-on values, and the part operates again
once power-on is left.  The model's own: POWER_ON_EXIT asserts the 10 ms (log entry 4), leaves a state whose supplies are
not rising (log entry 1), and `lastSent` and `lastSecondEvent` are absent in State.reset (log entry 18). -/
def Obligations.PowerOnActs : Prop :=
  ∀ s : State,
    exec .powerOn s
      = .next { State.reset with supplies := .rising, resetLow := s.resetLow, pending := s.pending } ∧
    exec .supplyBelowLimit s
      = .next { State.reset with supplies := .below, resetLow := s.resetLow, pending := s.pending } ∧
    (s.supplies = .rising → exec .powerOnExit s = .next { s with supplies := .good }) ∧
    (s.supplies ≠ .rising → exec .powerOnExit s = .next s)

/-- The reset line (R23, R39, R88, R113, R134, R146, R158, R191): the banks, their roles, the generation and the last
switch second are kept, the enabled streams of the active bank are awaiting from elapsed time 0, and everything else is
as after power-on; the release lets the part operate with elapsed time 0.  The model's own: a release with RESET_N high
leaves the state (log entry 1), and `lastSent` and `lastSecondEvent` are absent in State.reset, the moment power-on is left
(log entries 4 and 18). -/
def Obligations.ResetLineActs : Prop :=
  ∀ s : State,
    (∃ t, exec .resetLine s = .next t ∧
      t = { State.reset with
        supplies := s.supplies
        resetLow := true
        pending := s.pending
        store := { s.store with claim := none, pendingSwitch := none, draining := none }
        supervisor := t.supervisor } ∧
      t.supervisor.worst = [] ∧ t.supervisor.worstSecond = none ∧ t.supervisor.fastWait.bank = s.store.active ∧
      (s.store.active = none → t.supervisor.fastWait.ms = 0) ∧
      (∀ a, s.store.active = some a → t.supervisor.fastWait.ms =
        if (s.store.bank a).adaptive then (s.store.bank a).fastMax else (s.store.bank a).fixedWait) ∧
      ∀ i : StreamId,
        (∀ a, s.store.active = some a → (s.store.bank a).enabled i = true →
          t.supervisor.streams[i] = { StreamRecord.unconfigured with
            health := .awaiting
            silenceTimer := some ((s.store.bank a).silenceLimit * 100000000) }) ∧
        ((∀ a, s.store.active = some a → (s.store.bank a).enabled i = false) →
          t.supervisor.streams[i] = StreamRecord.unconfigured)) ∧
    (s.resetLow = true → exec .resetLineRelease s
      = .next { s with resetLow := false, timebase := { s.timebase with elapsed := 0 } }) ∧
    (s.resetLow = false → exec .resetLineRelease s = .next s)

/-- While a reset acts, no PPS edge, byte, request or event is taken: every command but the five of the resets
leaves the state as it is, and every attention line is deasserted (R191). -/
def Obligations.NothingTakenInReset : Prop :=
  ∀ (c : Instr) (s : State), s.operating = false → Instr.isReset c = false → c ≠ .powerOnExit → c ≠ .resetLineRelease →
    exec c s = .next s ∧ ∀ p : PortId, attention s p = false

/-! ### The timebase -/

/-- A time message whose check value agrees is kept as the latest message; one whose check value disagrees has no effect
(R6, R186, R187).  A message is broken off, with no effect, once more than 5 ms of elapsed time have gone by since its last
byte, and not before (R187); how a gap between commands reaches the receiver is the model's choice (log entry 13). -/
def Obligations.TimeMessageTaken : Prop :=
  ∀ s : State, s.operating = true →
    (s.timebase.rx = .hunting →
      (∀ m : TimeMessage, m.marked < 2 ^ 32 →
        exec (.timeMessage (m.bytes.map LineEvent.byte)) s
          = .next { s with timebase := { s.timebase with latest := some m, messageSincePps := true } }) ∧
      (∀ body check : List Byte, body.length = 5 → check.length = 2 → valueOf check ≠ (crc16 body).toNat →
        exec (.timeMessage ((0xC3 :: body ++ check).map LineEvent.byte)) s = .next s)) ∧
    (∀ got last, s.timebase.rx = .receiving got last →
      (s.timebase.elapsed ≤ last + 500000 → exec (.timeMessage []) s = .next s) ∧
      (last + 500000 < s.timebase.elapsed → ∀ line,
        exec (.timeMessage line) s = exec (.timeMessage line) { s with timebase := { s.timebase with rx := .hunting } }))

/-- A PPS that is ignored changes nothing, and an invalid PPS only notes its announced second (R7). -/
def Obligations.InvalidPpsOnlyNoted : Prop :=
  ∀ s : State, s.operating = true →
    (s.timebase.latest = none → exec .ppsEdge s = .next s) ∧
    (∀ m, s.timebase.latest = some m → m.valid = false →
      (s.timebase.messageSincePps = true → exec .ppsEdge s
        = .next { s with timebase := { s.timebase with prevSecond := some m.marked, messageSincePps := false } }) ∧
      (∀ y, s.timebase.messageSincePps = false → s.timebase.prevSecond = some y → y < 4294967295 →
        exec .ppsEdge s
          = .next { s with timebase := { s.timebase with prevSecond := some (y + 1), messageSincePps := false } }))

/-- The first valid PPS (R8, R17, R18, R20): local time is (x, 0), the state LOCKED, REFERENCE_CHANGE alone is raised,
and in ALIGNING the slot of (x, 0) opens with discontinuity and class 0. -/
def Obligations.FirstValidPpsSetsTime : Prop :=
  ∀ (s : State) (x : Nat), ValidPps s x → s.timebase.localTime = none → s.timebase.state = .unset →
    s.store.pendingSwitch = none → s.store.draining = none → s.table.slots = [] → s.table.horizon = none →
    ∃ t, exec .ppsEdge s = .next t ∧
      t = { s with timebase := t.timebase, ports := t.ports, supervisor := t.supervisor, table := t.table } ∧
      t.timebase = { lockedBy x s.timebase with localTime := some ⟨x, 0⟩, lastSecondEvent := some x } ∧
      RaisedInAll [.referenceChange] s t ∧
      (s.store.active = none → t.table = s.table) ∧
      (∀ a, s.store.active = some a → t.table.horizon = some ⟨x, 0⟩ ∧ t.table.mark = false ∧
        ∃ sl, t.table.slots = [sl] ∧ sl.key = ⟨x, 0⟩ ∧ sl.bank = a ∧ sl.generation = s.store.generation ∧
          sl.discontinuity = true ∧ sl.timeClass = 0)

/-- A valid PPS with an error of at most 200 µs slews and leaves the timebase LOCKED, whatever acceptance was, without
DISCONTINUITY; it cancels what was in progress (R9, R10, R13, R16, R21). -/
def Obligations.SmallErrorSlews : Prop :=
  ∀ (s : State) (x : Nat) (t₀ : LocalTime), ValidPps s x → s.timebase.localTime = some t₀ →
    (errorOf x t₀).natAbs ≤ 200000 →
    ∃ t, exec .ppsEdge s = .next t ∧
      t = { s with timebase := t.timebase, ports := t.ports } ∧
      t.timebase = { lockedBy x s.timebase with
        acceptance := .none
        correction := if errorOf x t₀ = 0 then .none else .slew (errorOf x t₀) s.timebase.elapsed } ∧
      RaisedInAll (changeKinds s.timebase.state .locked) s t

/-- A valid PPS with an error above 200 µs, and within 2 s unless it is taken under acceptance, steps local time to (x, 0)
at once, takes every deadline passed, and raises DISCONTINUITY (R3, R9, R11, R16, R17, R21). -/
def Obligations.LargeErrorSteps : Prop :=
  ∀ (s : State) (x : Nat) (t₀ : LocalTime), ValidPps s x → s.timebase.localTime = some t₀ → TableInv s →
    200000 < errorOf x t₀ → (errorOf x t₀ ≤ 2000000000 ∨ s.timebase.acceptance ≠ .none) →
    ∃ t, exec .ppsEdge s = .next t ∧
      t = { s with
        timebase := t.timebase, ports := t.ports, supervisor := t.supervisor, store := t.store, table := t.table } ∧
      t.timebase = { lockedBy x s.timebase with
        localTime := some ⟨x, 0⟩
        correction := .none
        acceptance := .none
        lastSecondEvent := some x } ∧
      (∀ p : PortId, kindIn .discontinuity t.ports[p].latched = true ∧
        (s.timebase.state ≠ .locked → kindIn .referenceChange t.ports[p].latched = true)) ∧
      DeadlinesTaken ⟨x, 0⟩ t.table.slots

/-- A valid PPS with an error below −200 µs, and within 2 s unless it is taken under acceptance, holds local time for the
size of the error; a pause that replaces one in progress gives no new notice; acceptance is HELD for a pause of more
than 2 s (R9, R12, R16, R21). -/
def Obligations.NegativeErrorPauses : Prop :=
  ∀ (s : State) (x : Nat) (t₀ : LocalTime), ValidPps s x → s.timebase.localTime = some t₀ →
    errorOf x t₀ < -200000 → (-2000000000 ≤ errorOf x t₀ ∨ s.timebase.acceptance ≠ .none) →
    ∃ t, exec .ppsEdge s = .next t ∧
      t = { s with timebase := t.timebase, ports := t.ports, table := t.table } ∧
      t.timebase = { lockedBy x s.timebase with
        correction := .pause (s.timebase.elapsed + (errorOf x t₀).natAbs / 10)
        acceptance := if errorOf x t₀ < -2000000000 then .held else .none } ∧
      t.table = { s.table with mark := s.table.mark || !s.timebase.correction.isPause } ∧
      RaisedInAll
        (changeKinds s.timebase.state .locked ++ if s.timebase.correction.isPause then [] else [.discontinuity]) s t

/-- A valid PPS whose error exceeds 2 s without acceptance is rejected: the error is kept, every correction and both
timers stop, and local time is left as it is (R5, R9, R14, R21). -/
def Obligations.ExcessiveErrorRejected : Prop :=
  ∀ (s : State) (x : Nat) (t₀ : LocalTime), ValidPps s x → s.timebase.localTime = some t₀ →
    s.timebase.acceptance = .none → 2000000000 < (errorOf x t₀).natAbs →
    ∃ t, exec .ppsEdge s = .next t ∧
      t = { s with timebase := t.timebase, ports := t.ports } ∧
      t.timebase = { s.timebase with
        state := .rejected
        rejectedError := some (errorOf x t₀)
        correction := .none
        lossTimer := none
        holdoverTimer := none
        prevSecond := some x
        messageSincePps := false } ∧
      RaisedInAll (changeKinds s.timebase.state .rejected) s t

/-- The timers of the timebase: PPS loss, the holdover limit, the end of a slew and the end of a pause, when the pause
ends with every deadline that local time has reached (R3, R5, R10, R12, R16, R21).  And the step on an empty queue: the
events that are due are put into the queue; with none due one oscillator period passes, in which elapsed time advances
and local time with it, by a slew's part more or less, not at all in a pause, and not past its last value (R1, R2, R10,
R12).  That the idle part raises its events through the queue, and in which order, is the model's choice (log entry 2). -/
def Obligations.TimebaseTimersExpire : Prop :=
  ∀ s : State, s.operating = true →
    (s.pending = [] →
      ((∃ c, Due s c) → ∃ t, step s = .next t ∧ t = { s with pending := t.pending } ∧ ∀ c, c ∈ t.pending ↔ Due s c) ∧
      ((∀ c, ¬ Due s c) → s.timebase.elapsed + 1 < 2 ^ 64 → ∃ t, step s = .next t ∧
        t = { s with timebase := { s.timebase with
          elapsed := s.timebase.elapsed + 1
          localTime := t.timebase.localTime } } ∧
        (s.timebase.localTime = none → t.timebase.localTime = none) ∧
        (∀ t₀, s.timebase.localTime = some t₀ → ∃ t₁, t.timebase.localTime = some t₁ ∧ t₁.ns < 1000000000 ∧
          t₁.second * 1000000000 + t₁.ns
            = min (t₀.second * 1000000000 + t₀.ns + periodAdvance s.timebase.correction (s.timebase.elapsed + 1))
                (4294967295 * 1000000000 + 999999990)))) ∧
    (∀ d, s.timebase.state = .locked → s.timebase.lossTimer = some d → d ≤ s.timebase.elapsed →
      ∃ t, exec .ppsLossTimerExpiry s = .next t ∧ t = { s with timebase := t.timebase, ports := t.ports } ∧
        t.timebase = { s.timebase with
          state := .holdover
          lossTimer := none
          holdoverTimer := some (s.timebase.elapsed + 90000000000)
          acceptance := if s.timebase.acceptance = .held then .none else s.timebase.acceptance } ∧
        RaisedInAll [.referenceChange] s t) ∧
    (∀ d, s.timebase.state = .holdover → s.timebase.holdoverTimer = some d → d ≤ s.timebase.elapsed →
      ∃ t, exec .holdoverLimitExpiry s = .next t ∧ t = { s with timebase := t.timebase, ports := t.ports } ∧
        t.timebase = { s.timebase with state := .drifting, holdoverTimer := none } ∧
        RaisedInAll [.referenceChange] s t) ∧
    (∀ e start, s.timebase.correction = .slew e start → start + 100000000 ≤ s.timebase.elapsed →
      exec .slewEnd s = .next { s with timebase := { s.timebase with correction := .none } }) ∧
    (∀ ends t₀, s.timebase.correction = .pause ends → ends ≤ s.timebase.elapsed →
      s.timebase.localTime = some t₀ → TableInv s →
      ∃ t, exec .pauseEnd s = .next t ∧
        t = { s with timebase := t.timebase, table := t.table, supervisor := t.supervisor } ∧
        t.timebase = { s.timebase with
          correction := .none
          acceptance := if s.timebase.acceptance = .held then .none else s.timebase.acceptance } ∧
        DeadlinesTaken t₀ t.table.slots)

/-! ### Boundaries -/

/-- The second-boundary event with no switch due (R17, R103 to R106): every peak figure decays, and the fast wait in
force is set for the active bank from the decayed peaks or to the fixed fast wait. -/
def Obligations.SecondBoundaryWork : Prop :=
  ∀ (s : State) (t₀ : LocalTime), s.operating = true → s.timebase.localTime = some t₀ →
    s.timebase.correction.isPause = false → s.timebase.lastSecondEvent ≠ some t₀.second →
    (∀ S, s.store.pendingSwitch = some S → t₀.second < S) →
    ∃ t, exec .secondBoundary s = .next t ∧
      t = { s with
        supervisor := t.supervisor
        timebase := { s.timebase with lastSecondEvent := some t₀.second } } ∧
      (∀ i : StreamId, t.supervisor.streams[i] = { s.supervisor.streams[i] with
        tracker := s.supervisor.streams[i].tracker.map fun k =>
          { k with peak := max k.smoothed (k.peak - k.peak / 32) } }) ∧
      t.supervisor.worstSecond = some t₀.second ∧
      (s.store.active = none → t.supervisor.fastWait = s.supervisor.fastWait) ∧
      (∀ a, s.store.active = some a →
        t.supervisor.fastWait.bank = some a ∧
        ((s.store.bank a).adaptive = false → t.supervisor.fastWait.ms = (s.store.bank a).fixedWait) ∧
        ((s.store.bank a).adaptive = true →
          ((∀ P, ¬ GatingPeak (s.store.bank a) t.supervisor.streams P) →
            t.supervisor.fastWait.ms = (s.store.bank a).fastMax) ∧
          (∀ W, GatingPeak (s.store.bank a) t.supervisor.streams W →
            (∀ P, GatingPeak (s.store.bank a) t.supervisor.streams P → P ≤ W) →
            t.supervisor.fastWait.ms =
              min (max ((W + 999) / 1000 + (s.store.bank a).margin) (s.store.bank a).fastMin)
                (s.store.bank a).fastMax)))

/-- The worst-latency list at a second boundary (R104, R107): the LIVE and LAGGING streams by S, largest first, a tie to
the lower index, the first four. -/
def Obligations.WorstListAtSecond : Prop :=
  ∀ (s : State) (t₀ : LocalTime), s.operating = true → s.timebase.localTime = some t₀ →
    s.timebase.correction.isPause = false → s.timebase.lastSecondEvent ≠ some t₀.second →
    (∀ S, s.store.pendingSwitch = some S → t₀.second < S) →
    ∃ t, exec .secondBoundary s = .next t ∧
      let before := fun (i j : StreamId) => ∀ a b, Listed s.supervisor.streams i a →
        Listed s.supervisor.streams j b → b < a ∨ (a = b ∧ i < j)
      t.supervisor.worst.length ≤ 4 ∧
      (∀ i ∈ t.supervisor.worst, ∃ a, Listed s.supervisor.streams i a) ∧
      t.supervisor.worst.Pairwise before ∧
      (∀ j b, Listed s.supervisor.streams j b → j ∉ t.supervisor.worst →
        t.supervisor.worst.length = 4 ∧ ∀ i ∈ t.supervisor.worst, before i j)

/-- A pending switch whose second has come is activated at the second boundary (R108, R131): the banks exchange roles, the
generation advances, draining begins for the old generation when it has non-CLOSED slots, the stream records are carried
over, and PROFILE_SWITCHED is raised. -/
def Obligations.SwitchActivates : Prop :=
  ∀ (s : State) (t₀ : LocalTime) (S : Nat) (a : BankId), s.operating = true → s.timebase.localTime = some t₀ →
    s.timebase.correction.isPause = false → s.timebase.lastSecondEvent ≠ some t₀.second →
    s.store.pendingSwitch = some S → S ≤ t₀.second → s.store.active = some a → s.store.standby ≠ a →
    ∃ t, exec .secondBoundary s = .next t ∧
      t = { s with
        store := t.store
        supervisor := t.supervisor
        ports := t.ports
        timebase := { s.timebase with lastSecondEvent := some t₀.second } } ∧
      t.store = { s.store with
        active := some s.store.standby
        standby := a
        generation := s.store.generation + 1
        lastSwitch := some S
        pendingSwitch := none
        draining := t.store.draining } ∧
      ((∃ sl ∈ s.table.slots, sl.generation = s.store.generation ∧ sl.state ≠ .closed) →
        t.store.draining = some ⟨s.store.generation, S⟩) ∧
      ((∀ sl ∈ s.table.slots, sl.generation = s.store.generation → sl.state = .closed) → t.store.draining = none) ∧
      t.supervisor.fastWait = ⟨if (s.store.bank s.store.standby).adaptive then (s.store.bank s.store.standby).fastMax
        else (s.store.bank s.store.standby).fixedWait, some s.store.standby⟩ ∧
      (∀ i : StreamId,
        let old := s.store.bank a
        let new := s.store.bank s.store.standby
        (new.enabled i = false → t.supervisor.streams[i] = StreamRecord.unconfigured) ∧
        (new.enabled i = true → old.enabled i = true → old.station i = new.station i →
          t.supervisor.streams[i] = { s.supervisor.streams[i] with
            tracker := s.supervisor.streams[i].tracker.map fun k =>
              { k with peak := max k.smoothed (k.peak - k.peak / 32) } }) ∧
        (new.enabled i = true → (old.enabled i = false ∨ old.station i ≠ new.station i) →
          t.supervisor.streams[i] = { StreamRecord.unconfigured with
            health := .awaiting
            silenceTimer := some (s.timebase.elapsed + new.silenceLimit * 100000000) })) ∧
      RaisedInAll [.profileSwitched] s t

/-- A slot opens at the epoch-boundary event of the current epoch, when the opening horizon allows it, under the bank that
governs the second and with its generation, be that bank active, pending or draining, with the sets, the two deadlines,
the local time class and the discontinuity of R68 to R70; H is set and the mark consumed (R18, R63, R64, R66, R67).  A
placed record for an epoch without a slot opens it the same way, when it is the current epoch or the one after it, and
the current epoch's slot first when that has none; the record is stored in it (R65).  The health that counts for an index
without a supervised stream under a draining bank is the model's choice (log entry 15). -/
def Obligations.EpochBoundaryOpensSlot : Prop :=
  ∀ (s : State) (t₀ : LocalTime) (b : BankId) (g : Generation), s.operating = true → s.timebase.localTime = some t₀ →
    Governs s.store b g t₀.second → TableInv s → s.table.slots.length < 512 →
    let rate := (s.store.bank b).rate
    let c : EpochKey := ⟨t₀.second, t₀.ns * rate / 1000000000⟩
    (s.timebase.correction.isPause = false → (∀ h, s.table.horizon = some h → EpochKey.older h c) →
      ∃ t, exec .epochBoundary s = .next t ∧
        t = { s with table := t.table, supervisor := t.supervisor } ∧
        t.table.horizon = some c ∧ t.table.mark = false ∧ t.table.lastGeneration = some g ∧
        t.table.slots.map Slot.key = s.table.slots.map Slot.key ++ [c] ∧
        ∃ sl ∈ t.table.slots, OpenedSlot s c b g sl ∧ ∀ i : StreamId, sl.entries[i] = none) ∧
    (∀ (r : PlacedRecord) (g' : Generation), s.arbiter.handling = some r → (∀ sl ∈ s.table.slots, sl.key ≠ r.key) →
      Governs s.store r.bank g' r.key.second →
      let opened := fun (t : State) (before : State) (keys : List EpochKey) =>
        t = { s with
          table := t.table, supervisor := t.supervisor, arbiter := { s.arbiter with handling := none } } ∧
        t.table.horizon = some r.key ∧ t.table.mark = false ∧ t.table.lastGeneration = some g' ∧
        t.table.slots.map Slot.key = s.table.slots.map Slot.key ++ keys ∧
        ∃ sl ∈ t.table.slots, OpenedSlot before r.key r.bank g' sl ∧
          sl.entries[r.stream] = some (r.entry false) ∧ ∀ i : StreamId, i ≠ r.stream → sl.entries[i] = none
      (r.key = c → (∀ h, s.table.horizon = some h → EpochKey.older h c) →
        ∃ t, exec .tableTakeRecord s = .next t ∧ opened t s [c]) ∧
      (∀ h, NextEpoch rate c r.key → s.table.horizon = some h → ¬ EpochKey.older h c → EpochKey.older h r.key →
        ∃ t, exec .tableTakeRecord s = .next t ∧ opened t s [r.key]) ∧
      (NextEpoch rate c r.key → (∀ h, s.table.horizon = some h → EpochKey.older h c) → s.table.slots.length < 511 →
        ∃ t, exec .tableTakeRecord s = .next t ∧
          opened t { s with table := { s.table with mark := false, lastGeneration := some g } } [c, r.key] ∧
          ∃ sl ∈ t.table.slots, OpenedSlot s c b g sl ∧ ∀ i : StreamId, sl.entries[i] = none))

/-- With every slot number taken, the opening recycles the oldest slot, which is CLOSED: the new slot has its number, and
CURSOR_OVERRUN is raised exactly in the ports whose cursor of a kind names its number of that kind (R64, R66). -/
def Obligations.OpeningRecyclesOldest : Prop :=
  ∀ (s : State) (c : EpochKey) (old : Slot) (rest : List Slot), s.operating = true → s.currentEpoch = some c →
    s.timebase.correction.isPause = false → TableInv s → s.table.slots = old :: rest → old.state = .closed →
    (∀ n : Fin 512, ∃ sl ∈ s.table.slots, sl.number = n) →
    (∀ h, s.table.horizon = some h → EpochKey.older h c) →
    ∃ t, exec .epochBoundary s = .next t ∧
      t = { s with table := t.table, supervisor := t.supervisor, ports := t.ports } ∧
      t.table.slots.map Slot.key = rest.map Slot.key ++ [c] ∧
      (∃ sl ∈ t.table.slots, sl.key = c ∧ sl.number = old.number) ∧
      ∀ p : PortId, Raised
        (if old.fastCut.map Cut.seq = some s.ports[p].fastCursor ∨ old.fullCut.map Cut.seq = some s.ports[p].fullCursor
          then [.cursorOverrun] else []) s.ports[p] t.ports[p]

/-- A deadline that local time has reached makes the oldest slot that lacks the cut ready by DEADLINE, and the release
pass gives it the next number of the kind; an expiry that finds its flag set has no effect (R78, R80, R81, R82).  A fast
cut reports the presence of every stream of the expected set that the slot has a supervised stream for: the streaks
follow, a LIVE stream becomes LAGGING at its eighth miss and a LAGGING one LIVE at its eighth time in a row (R100,
R101). -/
def Obligations.DeadlinesIssueCuts : Prop :=
  ∀ (s : State) (t₀ : LocalTime) (pre post : List Slot) (sl : Slot), s.operating = true →
    s.timebase.localTime = some t₀ → s.timebase.correction.isPause = false → TableInv s →
    s.table.slots = pre ++ sl :: post →
    ((∀ o ∈ pre, o.fastCut.isSome = true) → sl.fastCut = none → sl.fastReady = none →
      sl.fastDeadline.reached t₀ = true →
      ∃ t, exec (.fastDeadlineExpiry sl.key) s = .next t ∧
        t = { s with table := t.table, supervisor := { s.supervisor with streams := t.supervisor.streams } } ∧
        s.table.nextFast < t.table.nextFast ∧ Released t.table.slots ∧
        (∃ sl' ∈ t.table.slots, sl'.key = sl.key ∧ sl'.fastCut = some ⟨.deadline, s.table.nextFast⟩) ∧
        ((∀ o, post.head? = some o → o.fastReady = none) → ∀ i : StreamId,
          (sl.expected.count i = 1 → Supervised s.store sl.bank i →
            t.supervisor.streams[i] = reported (sl.entries[i]).isSome s.supervisor.streams[i]) ∧
          ((i ∉ sl.expected ∨ ¬ Supervised s.store sl.bank i) →
            t.supervisor.streams[i] = s.supervisor.streams[i]))) ∧
    ((∀ o ∈ pre, o.fullCut.isSome = true) → sl.fastCut.isSome = true → sl.fullCut = none → sl.fullReady = none →
      sl.fullDeadline.reached t₀ = true →
      ∃ t, exec (.fullDeadlineExpiry sl.key) s = .next t ∧
        t = { s with table := t.table, supervisor := t.supervisor } ∧ s.table.nextFull < t.table.nextFull ∧
        ∃ sl' ∈ t.table.slots, sl'.key = sl.key ∧ sl'.fullCut = some ⟨.deadline, s.table.nextFull⟩ ∧
          sl'.state = .closed) ∧
    (sl.fastReady.isSome = true → exec (.fastDeadlineExpiry sl.key) s = .next s) ∧
    (sl.fullReady.isSome = true → exec (.fullDeadlineExpiry sl.key) s = .next s)

/-- Draining ends when no slot of the draining generation is non-CLOSED, and not before (R84, R132). -/
def Obligations.DrainingEnds : Prop :=
  ∀ (s : State) (d : Draining), s.operating = true → s.store.draining = some d →
    ((∀ sl ∈ s.table.slots, sl.generation = d.generation → sl.state = .closed) →
      exec .drainingEnd s = .next { s with store := { s.store with draining := none } }) ∧
    ((∃ sl ∈ s.table.slots, sl.generation = d.generation ∧ sl.state ≠ .closed) → exec .drainingEnd s = .next s)

/-! ### Lanes and the arbiter -/

/-- A valid lane frame, as a station sends it, is a sign of life and joins the lane queue with its three stamps, or is
dropped and counted when 32 items are queued; LANE_EVENT is raised when the lane was DOWN or the queue full (R24, R26,
R27, R38, R184, R185). -/
def Obligations.ValidLaneFrameQueued : Prop :=
  ∀ (s : State) (l : LaneId) (c : LaneContent), s.operating = true → s.lanes[l].rx = .hunting →
    (∀ r, c = .measurement r → 1 ≤ r.phasors.length ∧ r.phasors.length ≤ 12 ∧ r.analogs.length ≤ 4) →
    ∃ t, exec (.laneFrameArrival l (c.bytes.map LineEvent.byte)) s = .next t ∧
      t = { s with lanes := t.lanes, ports := t.ports } ∧
      (∀ m : LaneId, m ≠ l → t.lanes[m] = s.lanes[m]) ∧
      (s.lanes[l].queue.length < 32 → t.lanes[l] = { s.lanes[l] with
        up := true
        silenceTimer := some (s.timebase.elapsed + 50000000)
        lastValid := some s.timebase.elapsed
        validCount := s.lanes[l].validCount + 1
        queue := s.lanes[l].queue ++ [⟨c, l, s.timebase.localTime, s.timebase.elapsed⟩]
        deepest := max s.lanes[l].deepest (s.lanes[l].queue.length + 1) }) ∧
      (32 ≤ s.lanes[l].queue.length → t.lanes[l] = { s.lanes[l] with
        up := true
        silenceTimer := some (s.timebase.elapsed + 50000000)
        lastValid := some s.timebase.elapsed
        validCount := s.lanes[l].validCount + 1
        overflowCount := s.lanes[l].overflowCount + 1 }) ∧
      RaisedInAll (if s.lanes[l].up = true ∧ s.lanes[l].queue.length < 32 then [] else [.laneEvent]) s t

/-- A frame that fails a check of R24 is dropped and counted, with LANE_EVENT in all ports and no effect on the lane's
state, timer or queue (R24, R25, R184, R185): one broken off, by a wrong stop bit, a long gap or a declared length above 106;
one whose check value disagrees; one of a type that no station sends; a MEASUREMENT with a phasor count outside 1..12, an
analog count above 4 or a length that the counts do not call for; and an ACKNOWLEDGMENT whose length is not 4 or whose result
byte is neither 0 nor 1.  A frame is broken off once more than 10 µs of elapsed time have gone by
since its last byte, and not before; the bytes that come after are taken as while hunting (R185).  How a gap between
commands reaches the receiver is the model's choice (log entry 13). -/
def Obligations.BadLaneFrameDiscarded : Prop :=
  (∀ (s : State) (l : LaneId) (frameType : Byte) (payload check : List Byte) (line : List LineEvent),
    s.operating = true → s.lanes[l].rx = .hunting → payload.length ≤ 106 → check.length = 4 →
    (line = (0xA5 :: frameType :: BitVec.ofNat 8 payload.length :: payload ++ check).map LineEvent.byte ∧
        (valueOf check ≠ (crc32 (frameType :: BitVec.ofNat 8 payload.length :: payload)).toNat ∨
          ¬ FitsFrame frameType payload)
      ∨ line = [.byte 0xA5, .byte frameType, .badStop] ∨ line = [.byte 0xA5, .byte frameType, .longGap]
      ∨ ∃ len : Byte, 106 < len.toNat ∧ line = [.byte 0xA5, .byte frameType, .byte len]) →
    ∃ t, exec (.laneFrameArrival l line) s = .next t ∧
      t = { s with lanes := t.lanes, ports := t.ports } ∧
      (∀ m : LaneId, m ≠ l → t.lanes[m] = s.lanes[m]) ∧
      t.lanes[l] = { s.lanes[l] with discardCount := s.lanes[l].discardCount + 1 } ∧
      RaisedInAll [.laneEvent] s t) ∧
  (∀ (s : State) (l : LaneId) (got : List Byte) (last : Nat), s.operating = true →
    s.lanes[l].rx = .receiving got last →
    (s.timebase.elapsed ≤ last + 1000 → exec (.laneFrameArrival l []) s = .next s) ∧
    (last + 1000 < s.timebase.elapsed →
      ∃ t, exec (.laneFrameArrival l []) s = .next t ∧
        t = { s with lanes := t.lanes, ports := t.ports } ∧
        (∀ m : LaneId, m ≠ l → t.lanes[m] = s.lanes[m]) ∧
        t.lanes[l] = { s.lanes[l] with rx := .hunting, discardCount := s.lanes[l].discardCount + 1 } ∧
        RaisedInAll [.laneEvent] s t ∧
        ∀ line, exec (.laneFrameArrival l line) s = exec (.laneFrameArrival l line) t))

/-- The silence timers and the quiet timer: a silent lane becomes DOWN with LANE_EVENT, a silent stream becomes SILENT,
a quiet stream's faults are forgotten; nothing else changes (R26, R93, R95). -/
def Obligations.SilenceAndQuietExpire : Prop :=
  ∀ s : State, s.operating = true →
    (∀ (l : LaneId) (d : Nat), s.lanes[l].silenceTimer = some d → d ≤ s.timebase.elapsed →
      ∃ t, exec (.laneSilenceTimerExpiry l) s = .next t ∧ t = { s with lanes := t.lanes, ports := t.ports } ∧
        (∀ m : LaneId, m ≠ l → t.lanes[m] = s.lanes[m]) ∧
        t.lanes[l] = { s.lanes[l] with up := false, silenceTimer := none } ∧ RaisedInAll [.laneEvent] s t) ∧
    (∀ (i : StreamId) (d : Nat), s.supervisor.streams[i].silenceTimer = some d → d ≤ s.timebase.elapsed →
      s.supervisor.streams[i].health.expected = true →
      ∃ t, exec (.streamSilenceTimerExpiry i) s = .next t ∧
        t = { s with supervisor := { s.supervisor with streams := t.supervisor.streams } } ∧
        (∀ j : StreamId, j ≠ i → t.supervisor.streams[j] = s.supervisor.streams[j]) ∧
        t.supervisor.streams[i] = { s.supervisor.streams[i] with health := .silent, silenceTimer := none }) ∧
    (∀ (i : StreamId) (d : Nat), s.supervisor.streams[i].quietTimer = some d → d ≤ s.timebase.elapsed →
      ∃ t, exec (.quietTimerExpiry i) s = .next t ∧
        t = { s with supervisor := { s.supervisor with streams := t.supervisor.streams } } ∧
        (∀ j : StreamId, j ≠ i → t.supervisor.streams[j] = s.supervisor.streams[j]) ∧
        t.supervisor.streams[i] = { s.supervisor.streams[i] with faultCount := 0, quietTimer := none })

/-- The transmission of the first command frame ends: it leaves the queue and the sent count rises, whatever the lane's
state (R29); on the line it is the start byte, type 0x81, length 4, the station code, the tag and the action's code, and the
CRC-32 (R36, R184, R185, R190).  `lastSent`, which holds the line's bytes, is the model's own field. -/
def Obligations.CommandFrameLeaves : Prop :=
  ∀ (s : State) (l : LaneId) (f : CommandFrame) (rest : List CommandFrame), s.operating = true →
    s.lanes[l].outbound = f :: rest →
    ∃ t, exec (.commandFrameSent l) s = .next t ∧ t = { s with lanes := t.lanes } ∧
      (∀ m : LaneId, m ≠ l → t.lanes[m] = s.lanes[m]) ∧
      t.lanes[l] = { s.lanes[l] with
        outbound := rest
        sentCount := s.lanes[l].sentCount + 1
        lastSent := some f.bytes } ∧
      (∀ code : Byte, code = (match f.action with
          | .halt => 0
          | .resume => 1
          | .echo => 2) →
        let body := [0x81, 0x04] ++ bytesOf 2 f.station ++ [f.tag, code]
        f.bytes = 0xA5 :: body ++ bytesOf 4 (crc32 body).toNat)

/-- The idle arbiter takes the head of the first non-empty queue in round-robin order and moves its position past that
lane; a measurement taken outside ALIGNING, or stamped while local time was unset, is dropped silently (R30, R32). -/
def Obligations.ArbiterDropsOutsideAligning : Prop :=
  ∀ (s : State) (l : LaneId) (item : QueueItem) (rest : List QueueItem) (r : Record), s.operating = true →
    ArbiterServes s l item rest → item.content = .measurement r →
    (s.store.active = none ∨ s.timebase.localTime = none ∨ item.arrivalLocal = none) →
    ∃ t, exec .arbiterTake s = .next t ∧ t = afterTake s l rest

/-- A measurement record is refused by the first check that fails, in the order of R58: with no placement bank it is dropped
(R42); an unknown station raises UNKNOWN_SOURCE (R43); a record of a supervised stream that is QUARANTINED or HALTED is
dropped (R45); then TIME_INVALID (R47), SHAPE (R48), OFF_GRID (R51), AHEAD past the end of the era (R50), the drop of a
rollover into a second of another bank (R50), the between-grid drop (R52) and AHEAD (R53).  A fault is counted against the
supervised stream, which is quarantined at the fourth, and is a silent drop without one (R44, R46). -/
def Obligations.FaultsCountedAndQuarantined : Prop :=
  ∀ (s : State) (l : LaneId) (item : QueueItem) (rest : List QueueItem) (r : Record) (arrival now : LocalTime) (b : BankId),
    s.operating = true → ArbiterServes s l item rest → item.content = .measurement r →
    item.arrivalLocal = some arrival → s.timebase.localTime = some now → s.store.active.isSome = true →
    let dropped := exec .arbiterTake s = .next (afterTake s l rest)
    ((∀ a, ¬ PlacementBank s.store a r.second.toNat) → dropped) ∧
    (PlacementBank s.store b r.second.toNat →
      let bank := s.store.bank b
      ((∀ i : StreamId, bank.enabled i = true → bank.station i ≠ r.station.toNat) →
        ∃ t, exec .arbiterTake s = .next t ∧ t = { afterTake s l rest with ports := t.ports } ∧
          RaisedInAll [.unknownSource] s t) ∧
      (∀ i : StreamId, bank.failing = none → bank.enabled i = true → bank.station i = r.station.toNat →
        let before := s.supervisor.streams[i]
        let rate := bank.streamRate i
        let rolls := gridOf rate r = rate
        let fault := fun (k : FaultKind) =>
          (¬ Supervised s.store b i → dropped) ∧
          (Supervised s.store b i → before.health.judged = true → before.faultCount < 4 →
            ∃ t, exec .arbiterTake s = .next t ∧ TakesFault k i s (afterTake s l rest) t)
        (Supervised s.store b i → (before.health = .quarantined ∨ before.health = .halted) → dropped) ∧
        (¬ TimeSound r → fault .timeInvalid) ∧
        (TimeSound r → ¬ ShapeFits bank i r → fault .shape) ∧
        (TimeSound r → ShapeFits bank i r → ¬ Sound bank i r → fault .offGrid) ∧
        (Sound bank i r → rolls → r.second.toNat = 4294967295 → fault .ahead) ∧
        (Sound bank i r → rolls → r.second.toNat ≠ 4294967295 → ¬ PlacementBank s.store b (r.second.toNat + 1) →
          dropped) ∧
        (Sound bank i r → (rolls → r.second.toNat ≠ 4294967295) → (∀ e, ¬ OnEpoch bank i r e) → dropped) ∧
        (∀ g v e, Sound bank i r → (rolls → r.second.toNat ≠ 4294967295 ∧ PlacementBank s.store b (r.second.toNat + 1)) →
          OnEpoch bank i r e → Governs s.store v g now.second →
          Ahead (s.store.bank v).rate ⟨now.second, now.ns * (s.store.bank v).rate / 1000000000⟩ e → fault .ahead)))

/-- A record that the placement unit hands on stands within the tolerance of the instant of its epoch (R49 to R52): with
the stream's rate on the release grid, |timestamp − epoch| ≤ τ, exactly; and it is not ahead of the next epoch.  And a
record that passes every check is handed on to the table, for which the arbiter then waits, with its epoch, its bank, its
offset, its angles turned back, its latency and its three flags (R31, R54 to R58). -/
def Obligations.PlacedWithinTolerance : Prop :=
  (∀ (s : State) (item : QueueItem) (arrival : LocalTime) (r : Record) (placed : PlacedRecord),
    s.place item arrival r = .placed placed →
    let bank := s.store.bank placed.bank
    let rate := bank.streamRate placed.stream
    0 < rate → (bank.rate % rate = 0 ∨ rate % bank.rate = 0) → 0 < bank.rate →
    ((((r.second.toNat * 1000000000 + r.fraction.toNat) * bank.rate : Nat) : Int)
      - ((placed.key.second * bank.rate + placed.key.index) * 1000000000 : Nat)).natAbs
        ≤ bank.tolerance * 1000 * bank.rate ∧
    placed.key.index < bank.rate ∧ placed.key.second < 2 ^ 32 ∧
    (∀ c, s.currentEpoch = some c → ∀ n, s.epochAfter c = some n → ¬ EpochKey.older n placed.key)) ∧
  (∀ (s : State) (l : LaneId) (item : QueueItem) (rest : List QueueItem) (r : Record) (arrival now : LocalTime)
      (b v : BankId) (g : Generation) (i : StreamId) (e : EpochKey),
    s.operating = true → ArbiterServes s l item rest → item.content = .measurement r →
    item.arrivalLocal = some arrival → s.timebase.localTime = some now → PlacementBank s.store b r.second.toNat →
    Governs s.store v g now.second →
    let bank := s.store.bank b
    bank.failing = none → bank.enabled i = true → bank.station i = r.station.toNat →
    (Supervised s.store b i →
      s.supervisor.streams[i].health ≠ .quarantined ∧ s.supervisor.streams[i].health ≠ .halted) →
    Sound bank i r → OnEpoch bank i r e →
    (gridOf (bank.streamRate i) r = bank.streamRate i →
      r.second.toNat ≠ 4294967295 ∧ PlacementBank s.store b (r.second.toNat + 1)) →
    ¬ Ahead (s.store.bank v).rate ⟨now.second, now.ns * (s.store.bank v).rate / 1000000000⟩ e →
    ∃ t placed c, exec .arbiterTake s = .next t ∧
      t = { afterTake s l rest with arbiter := { position := l + 1, handling := some placed } } ∧
      (let delta := Int.tdiv (offsetOf (bank.streamRate i) r) (bank.streamRate i)
       let available := r.freqDev ≠ 0x8000
       let late := ((arrival.second * 1000000000 + arrival.ns : Nat) : Int)
         - ((r.second.toNat * 1000000000 + r.fraction.toNat : Nat) : Int)
       (bank.angleCorrection i = true ∧ available → IsTurn r.freqDev.toInt delta c) ∧
       (¬ (bank.angleCorrection i = true ∧ available) → c = 0) ∧
       placed = { placed with
         key := e
         bank := b
         stream := i
         record := { r with phasors := r.phasors.map fun p => { p with angle := p.angle - BitVec.ofInt 16 c } }
         deltaNs := delta
         correction := -c
         lane := item.lane
         latency := min (late / 1000).toNat 16777215
         arrivalElapsed := item.arrivalElapsed } ∧
       (placed.supervised = true ↔ Supervised s.store b i) ∧
       (placed.doubtful = true ↔ bank.threshold < r.quality.toNat) ∧ (placed.corrected = true ↔ c ≠ 0) ∧
       (placed.uncorrected = true ↔ bank.angleCorrection i = true ∧ delta ≠ 0 ∧ ¬ available)))

/-- A matching acknowledgment completes its command (R139, R140, R143): the slot is EMPTY, the issuing port has the outcome
with the round-trip time and COMMAND_DONE, and the effect applies when a HALT or RESUME is acknowledged DONE for the station
still at the index.  A HALT effect halts the stream, but for an UNCONFIGURED one (R98); a RESUME effect sets a HALTED stream
awaiting with its faults forgotten and keeps tracker, last lane, last accepted time and last fault, and changes no other
stream (R91, R99).  An acknowledgment that matches no PENDING slot is discarded and changes nothing (R141). -/
def Obligations.AcknowledgmentCompletes : Prop :=
  ∀ (s : State) (l : LaneId) (item : QueueItem) (rest : List QueueItem) (a : Ack),
    s.operating = true → ArbiterServes s l item rest → item.content = .acknowledgment a →
    ((∀ i : StreamId, ∀ c, s.relay.slots[i] = some c →
        ¬ (c.station = a.station.toNat ∧ c.tag = a.tag ∧ c.issued ≤ item.arrivalElapsed)) →
      exec .arbiterTake s = .next (afterTake s l rest)) ∧
    ∀ (i : StreamId) (c : CommandSlot),
    s.relay.slots[i] = some c → c.station = a.station.toNat → c.tag = a.tag → c.issued ≤ item.arrivalElapsed →
    (∀ j : StreamId, ∀ d, j ≠ i → s.relay.slots[j] = some d → d.station ≠ c.station) →
    let applies := a.result = .done ∧ c.action ≠ .echo ∧ s.store.activeStation i = some c.station
    let before := s.supervisor.streams[i]
    ∃ t, exec .arbiterTake s = .next t ∧
      t = { afterTake s l rest with
        relay := { s.relay with slots := t.relay.slots }
        ports := t.ports
        supervisor := { s.supervisor with streams := t.supervisor.streams } } ∧
      t.relay.slots[i] = none ∧ (∀ j : StreamId, j ≠ i → t.relay.slots[j] = s.relay.slots[j]) ∧
      OtherPortsSame c.port s t ∧
      (∃ applied, (applied = true ↔ applies) ∧
        let o : CommandOutcome :=
          { stream := i
            station := c.station
            action := c.action
            tag := c.tag
            result := if a.result = .done then .done else .refused
            applied := applied
            roundTrip := some (item.arrivalElapsed - c.issued) }
        Raised [.commandDone] { s.ports[c.port] with outcome := some o } t.ports[c.port]) ∧
      (∀ j : StreamId, j ≠ i → t.supervisor.streams[j] = s.supervisor.streams[j]) ∧
      (¬ applies → t.supervisor.streams[i] = before) ∧
      (applies → c.action = .halt →
        (before.health = .unconfigured → t.supervisor.streams[i] = before) ∧
        (before.health ≠ .unconfigured → t.supervisor.streams[i] = { before with
          health := .halted, silenceTimer := none, quietTimer := none, missStreak := 0, onTimeStreak := 0 })) ∧
      (applies → c.action = .resume →
        (before.health ≠ .halted → t.supervisor.streams[i] = before) ∧
        (before.health = .halted → ∃ b, s.store.active = some b ∧ t.supervisor.streams[i] = { before with
          health := .awaiting
          faultCount := 0
          quietTimer := none
          missStreak := 0
          onTimeStreak := 0
          silenceTimer := some (s.timebase.elapsed + (s.store.bank b).silenceLimit * 100000000) }))

/-! ### The table's take of a record -/

/-- A placed record for a slot that still takes one, and that has no entry for its stream, is stored, LATE when the slot
is FAST_CUT (R71, R72).  Readiness is judged: COMPLETE when every stream of a nonempty expected set is present, else for
the fast cut GATING when every stream of a nonempty gating set is (R76, R77); the release pass gives the slot the cuts it
is ready for when every older slot holds them, and holds them back otherwise (R80).  The stream's record takes the
acceptance: an AWAITING or SILENT stream becomes LIVE with streaks 0; last lane, last accepted time, latency figures, and
the silence timer from the last accepted time, which expires at once when that is past (R58, R92, R93, R102).  The
acceptance comes after the release pass, which is the model's choice (log entry 11). -/
def Obligations.RecordStoredAndAccepted : Prop :=
  ∀ (s : State) (r : PlacedRecord) (sl : Slot), s.operating = true → s.arbiter.handling = some r → TableInv s →
    sl ∈ s.table.slots → sl.key = r.key → sl.fullCut = none → sl.bank = r.bank → sl.entries[r.stream] = none →
    ∃ t, exec .tableTakeRecord s = .next t ∧
      t = { s with
        table := t.table, supervisor := t.supervisor, arbiter := { s.arbiter with handling := none } } ∧
      Released t.table.slots ∧
      (∃ sl' ∈ t.table.slots, sl'.key = r.key ∧ sl'.expected = sl.expected ∧
        sl'.entries[r.stream] = some
          { record := r.record, deltaNs := r.deltaNs, correction := r.correction, lane := r.lane, latency := r.latency
            doubtful := r.doubtful, corrected := r.corrected, uncorrected := r.uncorrected
            late := sl.fastCut.isSome, mark := .none } ∧
        (∀ j : StreamId, j ≠ r.stream → sl'.entries[j] = sl.entries[j]) ∧
        ((sl.fastReady.isSome = true ∨ sl.fastCut.isSome = true) → sl'.fastReady = sl.fastReady) ∧
        (sl.fastReady = none → sl.fastCut = none →
          (AllPresent sl'.entries sl.expected → sl'.fastReady = some .complete) ∧
          (¬ AllPresent sl'.entries sl.expected → AllPresent sl'.entries sl.gating → sl'.fastReady = some .gating) ∧
          (¬ AllPresent sl'.entries sl.expected → ¬ AllPresent sl'.entries sl.gating → sl'.fastReady = none)) ∧
        (sl.fullReady.isSome = true → sl'.fullReady = sl.fullReady) ∧
        (sl.fullReady = none →
          (AllPresent sl'.entries sl.expected → sl'.fullReady = some .complete) ∧
          (¬ AllPresent sl'.entries sl.expected → sl'.fullReady = none)) ∧
        ∀ pre post, s.table.slots = pre ++ sl :: post →
          ((∀ o ∈ pre, o.fastCut.isSome = true) → sl.fastCut = none →
            sl'.fastCut = sl'.fastReady.map fun cause => ⟨cause, s.table.nextFast⟩) ∧
          ((∀ o ∈ pre, o.fullCut.isSome = true) → sl'.fastCut.isSome = true →
            sl'.fullCut = sl'.fullReady.map fun cause => ⟨cause, s.table.nextFull⟩) ∧
          ((∃ o ∈ pre, o.fastCut = none ∧ o.fastReady = none) → sl'.fastCut = sl.fastCut)) ∧
      (∀ o ∈ s.table.slots, o.key ≠ r.key → ∃ o' ∈ t.table.slots, o'.key = o.key ∧ o'.entries = o.entries) ∧
      (r.supervised = true → s.supervisor.streams[r.stream].health.judged = true →
        let before := s.supervisor.streams[r.stream]
        let after := t.supervisor.streams[r.stream]
        let seen := max (before.lastAccepted.getD 0) r.arrivalElapsed
        after.lastLane = some r.lane ∧
        after.lastAccepted = some seen ∧
        (before.tracker = none → after.tracker = some ⟨r.latency, r.latency, r.latency⟩) ∧
        (∀ k, before.tracker = some k →
          after.tracker = some ⟨r.latency, (15 * k.smoothed + r.latency + 8) / 16, max k.peak r.latency⟩) ∧
        ((before.health = .awaiting ∨ before.health = .silent) → after.missStreak = 0 ∧ after.onTimeStreak = 0) ∧
        (∀ a, s.store.active = some a →
          let expires := seen + (s.store.bank a).silenceLimit * 100000000
          (s.timebase.elapsed < expires → after.silenceTimer = some expires ∧
            ((before.health = .awaiting ∨ before.health = .silent) → after.health = .live)) ∧
          (expires ≤ s.timebase.elapsed → after.silenceTimer = none ∧ after.health = .silent)))

/-- The outcomes that store nothing (R65, R71, R73, R74).  With no slot for its epoch a record is TOO_LATE when another bank
governs the epoch, when it is older than the current epoch or newer than the one after it, and when it is not newer
than H; a CLOSED slot, a slot of another bank and an equal copy leave the table as it is too; a differing copy marks the
kept entry once, leaves every other slot and entry, raises CONFLICT, and reports a CONFLICT fault for a supervised stream
alone, which is taken by the stream's health: a judged stream counts it and is quarantined at the fourth, a QUARANTINED one
notes the kind, and UNCONFIGURED and HALTED discard it (R94, R96). -/
def Obligations.DuplicateAndConflict : Prop :=
  ∀ (s : State) (r : PlacedRecord), s.operating = true → s.arbiter.handling = some r → TableInv s →
    (∀ (t₀ : LocalTime) (b : BankId) (g : Generation), (∀ sl ∈ s.table.slots, sl.key ≠ r.key) →
      s.timebase.localTime = some t₀ → Governs s.store b g t₀.second →
      let rate := (s.store.bank b).rate
      let c : EpochKey := ⟨t₀.second, t₀.ns * rate / 1000000000⟩
      ((∀ g', ¬ Governs s.store r.bank g' r.key.second) ∨ EpochKey.older r.key c ∨ (r.key ≠ c ∧ ¬ NextEpoch rate c r.key) ∨
        (∃ h, s.table.horizon = some h ∧ ¬ EpochKey.older h r.key)) →
      exec .tableTakeRecord s = .next { s with arbiter := { s.arbiter with handling := none } }) ∧
    ∀ sl ∈ s.table.slots, sl.key = r.key →
    ((sl.fullCut.isSome = true ∨ sl.bank ≠ r.bank) →
      exec .tableTakeRecord s = .next { s with arbiter := { s.arbiter with handling := none } }) ∧
    (∀ e, sl.fullCut = none → sl.bank = r.bank → sl.entries[r.stream] = some e →
      (e.record = r.record →
        exec .tableTakeRecord s = .next { s with arbiter := { s.arbiter with handling := none } }) ∧
      (e.record ≠ r.record →
        let before := s.supervisor.streams[r.stream]
        (r.supervised = true → before.health.judged = true → before.faultCount ≤ 3) →
        ∃ t sl', exec .tableTakeRecord s = .next t ∧
          t = { s with
            table := { s.table with slots := s.table.slots.map fun o => if o.key = r.key then sl' else o }
            supervisor := { s.supervisor with streams := t.supervisor.streams }
            ports := t.ports
            arbiter := { s.arbiter with handling := none } } ∧
          sl' = { sl with entries := sl'.entries } ∧
          (∀ j : StreamId, j ≠ r.stream → sl'.entries[j] = sl.entries[j]) ∧
          sl'.entries[r.stream] = some { e with
            mark := if e.mark = .none then (if sl.fastCut.isSome then .afterFastCut else .beforeFastCut) else e.mark } ∧
          (∀ j : StreamId, j ≠ r.stream → t.supervisor.streams[j] = s.supervisor.streams[j]) ∧
          (r.supervised = false → t.supervisor.streams[r.stream] = before ∧ RaisedInAll [.conflict] s t) ∧
          (r.supervised = true → t.supervisor.streams[r.stream] = faulted s.timebase.elapsed .conflict before ∧
            RaisedInAll (.conflict :: faultKinds before) s t)))

/-- The command timeout and the claim timer: the command ends TIMED_OUT at its issuing port and its slot is EMPTY; the
claim lapses with CLAIM_LOST in the holder's port (R123, R142, R143). -/
def Obligations.CommandAndClaimTimeOut : Prop :=
  ∀ s : State, s.operating = true →
    (∀ (i : StreamId) (c : CommandSlot), s.relay.slots[i] = some c → c.timeout ≤ s.timebase.elapsed →
      ∃ t, exec (.commandTimeout i) s = .next t ∧
        t = { s with relay := { s.relay with slots := t.relay.slots }, ports := t.ports } ∧
        t.relay.slots[i] = none ∧ (∀ j : StreamId, j ≠ i → t.relay.slots[j] = s.relay.slots[j]) ∧
        OtherPortsSame c.port s t ∧
        let o : CommandOutcome :=
          { stream := i, station := c.station, action := c.action, tag := c.tag, result := .timedOut
            applied := false, roundTrip := none }
        Raised [.commandDone] { s.ports[c.port] with outcome := some o } t.ports[c.port]) ∧
    (∀ c : Claim, s.store.claim = some c → c.expires ≤ s.timebase.elapsed →
      ∃ t, exec .claimTimerExpiry s = .next t ∧
        t = { s with store := { s.store with claim := none }, ports := t.ports } ∧
        OtherPortsSame c.holder s t ∧ Raised [.claimLost] s.ports[c.holder] t.ports[c.holder])

/-! ### The consumer link -/

/-- A request, decoded from the payload its consumer encodes, is the request (R188, R189, R190). -/
def Obligations.RequestDecodesAsEncoded : Prop :=
  ∀ (c : Instr) (p : PortId) (tag code : Byte) (payload : List Byte), c.WellFormed = true →
    encodeRequest c = some (p, tag, code, payload) → decodeRequest p tag code payload = some c

/-- A request's frame on the line of an IDLE port puts the request in hand and raises the taken count by one; the request
as a command of its own then does what it does when sent alone (R147, R149, R188). -/
def Obligations.RequestFrameTakenInHand : Prop :=
  ∀ (s : State) (c : Instr) (p : PortId) (tag code : Byte) (payload : List Byte), Serves s p → s.ports[p].rx = .hunting →
    c.WellFormed = true → encodeRequest c = some (p, tag, code, payload) →
    ∃ t, exec (.requestFrameArrival p ((consumerFrameBytes tag code payload).map LineEvent.byte)) s = .next t ∧
      t = { s with ports := t.ports } ∧ OtherPortsSame p s t ∧
      t.ports[p] = { s.ports[p] with handler := .inHand c, takenCount := s.ports[p].takenCount + 1 } ∧
      exec c t = exec c s

/-- A good frame at a port that is EXECUTING is not decoded: it is answered BUSY while fewer than three BUSY answers wait,
and is otherwise discarded with LINK_ERROR in that port alone (R150, R157).  A good frame at an IDLE port whose code or
length fits no request is answered MALFORMED and reaches no block (R149, R189).  A frame whose check value disagrees, a
framing break and a length overrun are discarded with LINK_ERROR in that port alone, whatever its handler does (R147,
R148); so is a frame once more than 1 ms of elapsed time has gone by since its last byte, and not before (R147).  While the
receiver is HUNTING, bytes other than the preamble are skipped: they raise the skipped-byte count by one each, which wraps
at 32 bits, latch nothing and leave the rest of the line as it would be without them (R147, R157).  How a gap
between commands reaches the receiver is the model's choice (log entry 13). -/
def Obligations.ExecutingPortAnswersBusy : Prop :=
  ∀ (s : State) (p : PortId), s.operating = true →
    let discarded := fun (q : Port) (t : State) =>
      t = { s with ports := t.ports } ∧ OtherPortsSame p s t ∧
      Raised [.linkError] { q with discardCount := q.discardCount + 1 } t.ports[p]
    (∀ (tag code : Byte) (payload : List Byte), s.ports[p].handler ≠ .idle → s.ports[p].rx = .hunting →
      payload.length ≤ 8192 →
      ∃ t, exec (.requestFrameArrival p ((consumerFrameBytes tag code payload).map LineEvent.byte)) s = .next t ∧
        t = { s with ports := t.ports } ∧ OtherPortsSame p s t ∧
        ((s.ports[p].outbound.countP fun f => !f.ofRequest) < 3 →
          t.ports[p] = { s.ports[p] with
            busyCount := s.ports[p].busyCount + 1
            outbound := s.ports[p].outbound ++
              [{ tag := tag, reply := { code := .busy, result := .empty }, ofRequest := false }] }) ∧
        (3 ≤ (s.ports[p].outbound.countP fun f => !f.ofRequest) →
          Raised [.linkError] { s.ports[p] with discardCount := s.ports[p].discardCount + 1 } t.ports[p])) ∧
    (∀ (tag code : Byte) (payload : List Byte), s.ports[p].handler = .idle → s.ports[p].rx = .hunting →
      payload.length ≤ 8192 → ¬ FitsCode code payload.length →
      ∃ t, exec (.requestFrameArrival p ((consumerFrameBytes tag code payload).map LineEvent.byte)) s = .next t ∧
        Refuses p tag .malformed s t) ∧
    (∀ (tag code hi lo : Byte) (payload check : List Byte) (line : List LineEvent), s.ports[p].rx = .hunting →
      (line = (0x5A :: tag :: code :: hi :: lo :: payload ++ check).map LineEvent.byte ∧
          payload.length = valueOf [hi, lo] ∧ payload.length ≤ 8192 ∧ check.length = 2 ∧
          valueOf check ≠ (crc16 (tag :: code :: hi :: lo :: payload)).toNat
        ∨ line = [.byte 0x5A, .byte tag, .badStop] ∨ line = [.byte 0x5A, .byte tag, .longGap]
        ∨ (8192 < valueOf [hi, lo] ∧ line = [.byte 0x5A, .byte tag, .byte code, .byte hi, .byte lo])) →
      ∃ t, exec (.requestFrameArrival p line) s = .next t ∧ discarded s.ports[p] t) ∧
    (∀ noise : List Byte, s.ports[p].rx = .hunting → (∀ b ∈ noise, b ≠ 0x5A) →
      ∃ t, exec (.requestFrameArrival p (noise.map LineEvent.byte)) s = .next t ∧
        t = { s with ports := t.ports } ∧ OtherPortsSame p s t ∧
        t.ports[p] = { s.ports[p] with
          skippedCount := s.ports[p].skippedCount + BitVec.ofNat 32 noise.length } ∧
        ∀ line, exec (.requestFrameArrival p (noise.map LineEvent.byte ++ line)) s = exec (.requestFrameArrival p line) t) ∧
    (∀ got last, s.ports[p].rx = .receiving got last →
      (s.timebase.elapsed ≤ last + 100000 → exec (.requestFrameArrival p []) s = .next s) ∧
      (last + 100000 < s.timebase.elapsed →
        ∃ t, exec (.requestFrameArrival p []) s = .next t ∧ discarded { s.ports[p] with rx := .hunting } t ∧
          ∀ line, exec (.requestFrameArrival p line) s = exec (.requestFrameArrival p line) t))

/-- The transmission of the first response ends: it leaves the queue, and the handler becomes IDLE exactly when it was the
executing request's (R149, R150); on the line it is the preamble, the tag, the response code, the payload length, the
payload and the CRC-16 (R151, R188, R189).  `lastSent`, which holds the line's bytes, is the model's own field. -/
def Obligations.ResponseLeaves : Prop :=
  ∀ (s : State) (p : PortId) (f : OutFrame) (rest : List OutFrame), s.operating = true →
    s.ports[p].outbound = f :: rest →
    ∃ t, exec (.responseSent p) s = .next t ∧ t = { s with ports := t.ports } ∧ OtherPortsSame p s t ∧
      t.ports[p] = { s.ports[p] with
        outbound := rest
        handler := if f.ofRequest then .idle else s.ports[p].handler
        lastSent := some f.bytes } ∧
      let payload := f.reply.result.bytes
      let body := f.tag :: BitVec.ofNat 8 f.reply.code.code :: bytesOf 2 payload.length ++ payload
      f.bytes = 0x5A :: body ++ bytesOf 2 (crc16 body).toNat

/-- STATUS is answered OK with every item of R152 as the blocks stand, and changes no block: the port's counts, the
timebase (R22), the table (R87), the supervisor (R112), the profile store (R133) and the command relay (R143, R145). -/
def Obligations.StatusReportsTheBlocks : Prop :=
  ∀ (s : State) (p : PortId) (tag : Byte), Serves s p → s.table.slots.length ≤ 512 →
    ∃ t r, exec (.status p tag) s = .next t ∧ t = { s with ports := t.ports } ∧
      AnsweredAt p tag .ok (.status r) s.ports[p] s t ∧
      (r.port = p ∧ r.taken = s.ports[p].takenCount + 1 ∧ r.busy = s.ports[p].busyCount ∧
        r.discards = s.ports[p].discardCount ∧ r.skipped = s.ports[p].skippedCount) ∧
      (r.timeState = s.timebase.state ∧ r.localTime = s.timebase.localTime ∧ r.elapsed = s.timebase.elapsed ∧
        r.acceptance = s.timebase.acceptance ∧ r.rejectedError = s.timebase.rejectedError ∧
        r.timeClass = (match s.timebase.state with
          | .unset => none
          | .locked => some 0
          | .holdover => some 1
          | .drifting => some 2
          | .rejected => some 3) ∧
        r.correction = (match s.timebase.correction with
          | .none => .none
          | .slew e start =>
            .slew (e - 10 * Int.tdiv (e * (min (s.timebase.elapsed - start) 100000000 : Nat)) 1000000000)
          | .pause ends => .pause (ends - s.timebase.elapsed)) ∧
        (r.device = .unprovisioned ↔ s.store.active = none) ∧
        (r.device = .aligning ↔ s.store.active.isSome = true ∧ s.timebase.localTime.isSome = true)) ∧
      (r.freeSlots + r.openSlots + r.fastCutSlots + r.closedSlots = 512 ∧
        r.openSlots = s.table.slots.countP (fun sl => sl.fastCut.isNone) ∧
        r.fastCutSlots = s.table.slots.countP (fun sl => sl.fastCut.isSome && sl.fullCut.isNone) ∧
        r.closedSlots = s.table.slots.countP (fun sl => sl.state == .closed) ∧
        r.nextFast = s.table.nextFast ∧ r.nextFull = s.table.nextFull ∧
        r.oldestFast = (numbersOf .fast s.table).head? ∧ r.oldestFull = (numbersOf .full s.table).head? ∧
        r.newestKey = s.table.slots.getLast?.map Slot.key ∧ r.horizon = s.table.horizon) ∧
      (r.healthCounts = [Health.unconfigured, .awaiting, .live, .lagging, .silent, .quarantined, .halted].map (fun h =>
          (List.finRange 48).countP fun i => s.supervisor.streams[i].health == h) ∧
        r.healthCounts.sum = 48 ∧ r.fastWait = s.supervisor.fastWait) ∧
      (r.active = s.store.active ∧ r.standby = s.store.standby ∧ r.generation = s.store.generation ∧
        r.activeLabel = s.store.active.map (fun a => (s.store.bank a).read (.global 11)) ∧
        r.standbyLabel = (s.store.bank s.store.standby).read (.global 11) ∧
        r.activeRate = s.store.active.map (fun a => (s.store.bank a).read (.global 0)) ∧
        r.claim = s.store.claim.map (fun c => (c.holder, c.expires - s.timebase.elapsed)) ∧
        r.pendingSwitch = s.store.pendingSwitch.map (fun S => (S, s.store.standby)) ∧
        r.draining = s.store.draining ∧ r.lastSwitch = s.store.lastSwitch) ∧
      r.pendingCommands = (List.finRange 48).countP (fun i => s.relay.slots[i].isSome) ∧ r.pendingCommands ≤ 48 ∧
      r.outcome = s.ports[p].outcome

/-- READ CONDITIONS returns the latched kinds, the live kinds and the mask, and removes from the latched set what it
returns; the attention line is asserted exactly while a kind of the mask is latched or live, before and after (R176, R178,
R179, R180). -/
def Obligations.ReadConditionsClearsLatched : Prop :=
  ∀ (s : State) (p : PortId) (tag : Byte), Serves s p →
    ∃ t live, exec (.readConditions p tag) s = .next t ∧ t = { s with ports := t.ports } ∧
      AnsweredAt p tag .ok (.conditions s.ports[p].latched live s.ports[p].mask)
        { s.ports[p] with latched := 0 } s t ∧
      (∀ k : Kind, kindIn k live = true ↔
        (k = .snapshotWaiting ∧ ((s.ports[p].subFast = true ∧ s.ports[p].fastCursor < s.table.nextFast) ∨
          (s.ports[p].subFull = true ∧ s.ports[p].fullCursor < s.table.nextFull))) ∨
        (k = .rosterChanged ∧ ∃ i : StreamId, s.supervisor.streams[i].health ≠ s.ports[p].watch[i])) ∧
      (attention s p = true ↔ ∃ k : Kind, kindIn k s.ports[p].mask = true ∧
        (kindIn k s.ports[p].latched = true ∨ kindIn k live = true)) ∧
      (attention t p = true ↔ ∃ k : Kind, kindIn k s.ports[p].mask = true ∧ kindIn k live = true)

/-- SET MASK replaces the mask whole by the kinds named, and the attention line follows at once, or it is refused with
INVALID and leaves the mask (R153, R180, R189). -/
def Obligations.SetMaskReplacesMask : Prop :=
  ∀ (s : State) (p : PortId) (tag count : Byte) (kinds : List Byte), Serves s p → kinds.length = 15 →
    let used := kinds.take count.toNat
    (count.toNat ≤ 15 → (∀ c ∈ used, c.toNat < 15) → used.Nodup →
      ∃ t m, exec (.setMask p tag count kinds) s = .next t ∧ t = { s with ports := t.ports } ∧
        AnsweredAt p tag .ok (.mask m) { s.ports[p] with mask := m } s t ∧
        (∀ k : Kind, kindIn k m = true ↔ BitVec.ofNat 8 k.code ∈ used) ∧
        (attention t p = true ↔ ∃ k : Kind, kindIn k m = true ∧
          (kindIn k s.ports[p].latched = true ∨ kindIn k (liveKinds s p) = true))) ∧
    ((15 < count.toNat ∨ (∃ c ∈ used, 15 ≤ c.toNat) ∨ ¬ used.Nodup) →
      ∃ t, exec (.setMask p tag count kinds) s = .next t ∧ Refuses p tag .invalid s t)

/-- SUBSCRIBE sets the subscription and the filter, and the cursor of each newly subscribed kind by the start mode; a
kind that was subscribed, or is not named, keeps its cursor; a bad value is refused with INVALID (R160, R161, R189). -/
def Obligations.SubscribeSetsReadingState : Prop :=
  ∀ (s : State) (p : PortId) (tag kinds start count : Byte) (indices : List Byte), Serves s p → indices.length = 48 →
    let used := indices.take count.toNat
    let q := s.ports[p]
    let first := fun (own next : Nat) (l : List Nat) (newly : Bool) =>
      if newly then (if start = 0 then next else l.head?.getD next) else own
    (kinds.toNat ≤ 3 → start.toNat ≤ 1 → count.toNat ≤ 48 → (∀ c ∈ used, c.toNat < 48) → used.Nodup →
      ∃ t filter fc uc, exec (.subscribe p tag kinds start count indices) s = .next t ∧
        t = { s with ports := t.ports } ∧
        (∀ i : StreamId, i ∈ filter ↔ BitVec.ofNat 8 i.val ∈ used) ∧ filter.Nodup ∧
        (let fast := kinds == 1 || kinds == 3
         let full := kinds == 2 || kinds == 3
         fc = first q.fastCursor s.table.nextFast (s.table.slots.filterMap fun sl => sl.fastCut.map Cut.seq)
           (fast && !q.subFast) ∧
         uc = first q.fullCursor s.table.nextFull (s.table.slots.filterMap fun sl => sl.fullCut.map Cut.seq)
           (full && !q.subFull) ∧
         AnsweredAt p tag .ok (.reading fast full filter fc uc)
           { q with subFast := fast, subFull := full, filter := filter, fastCursor := fc, fullCursor := uc } s t)) ∧
    ((3 < kinds.toNat ∨ 1 < start.toNat ∨ 48 < count.toNat ∨ (∃ c ∈ used, 48 ≤ c.toNat) ∨ ¬ used.Nodup) →
      ∃ t, exec (.subscribe p tag kinds start count indices) s = .next t ∧ Refuses p tag .invalid s t)

/-- READ SNAPSHOT NEXT of either kind, by the four rows of R164: nothing issued at the cursor yet, the snapshot at the
cursor, the oldest one with a skipped count, or EXPIRED with an empty run; the snapshot is delivered whole (R168 to R170);
and the two refusals of R163.  That the six sequence-number bytes of NEXT are ignored is log entry 21. -/
def Obligations.ReadNextFollowsCursor : Prop :=
  ∀ (s : State) (p : PortId) (tag kind : Byte) (unused : BitVec 48), Serves s p → TableInv s →
    let q := s.ports[p]
    (1 < kind.toNat → ∃ t, exec (.readSnapshotNext p tag kind unused) s = .next t ∧ Refuses p tag .invalid s t) ∧
    ∀ k : SnapKind,
      let N := nextOf k s.table
      let c := cursorOf k q
      let read := exec (.readSnapshotNext p tag (kindByte k) unused) s
      (subscribedTo k q = false → ∃ t, read = .next t ∧ Refuses p tag .state s t) ∧
      (subscribedTo k q = true → c = N → ∃ t, read = .next t ∧ Refuses p tag .notYet s t) ∧
      (subscribedTo k q = true → c < N →
        (numbersOf k s.table = [] → ∃ t, read = .next t ∧ t = { s with ports := t.ports } ∧
          AnsweredAt p tag .expired (.oldest N) (cursorAt k N q) s t) ∧
        (∀ o, (numbersOf k s.table).head? = some o →
          ∃ t n skipped, ∃ sl ∈ s.table.slots, read = .next t ∧
            t = { s with ports := t.ports } ∧ n = max c o ∧ skipped = o - c ∧ (cutOf k sl).map Cut.seq = some n ∧
            ∃ snap, AnsweredAt p tag .ok (.snapshot snap) (cursorAt k (n + 1) q) s t ∧
              Delivers k sl skipped q.filter snap))

/-- READ SNAPSHOT by number, of either kind (R163, R165, R167 to R170): it delivers the retained snapshot whole, or answers
NOT_YET or EXPIRED, and moves no cursor; the fast view hides LATE entries and the conflicts found after the cut, and the
full view shows every entry and every conflict. -/
def Obligations.ReadSequenceDelivers : Prop :=
  ∀ (s : State) (p : PortId) (tag : Byte) (seq : BitVec 48), Serves s p → TableInv s →
    (∀ kind target : Byte, target ≠ 0 → (1 < kind.toNat ∨ target ≠ 1) →
      ∃ t, exec (.readSnapshotSequence p tag kind target seq) s = .next t ∧ Refuses p tag .invalid s t) ∧
    ∀ k : SnapKind,
      let read := exec (.readSnapshotSequence p tag (kindByte k) 1 seq) s
      (nextOf k s.table ≤ seq.toNat → ∃ t, read = .next t ∧ Refuses p tag .notYet s t) ∧
      (seq.toNat < nextOf k s.table → seq.toNat ∉ numbersOf k s.table →
        ∃ t, read = .next t ∧ t = { s with ports := t.ports } ∧
          AnsweredAt p tag .expired (.oldest ((numbersOf k s.table).head?.getD (nextOf k s.table))) s.ports[p] s t) ∧
      (∀ sl ∈ s.table.slots, ∀ cut, cutOf k sl = some cut → cut.seq = seq.toNat →
        ∃ t snap, read = .next t ∧ t = { s with ports := t.ports } ∧
          AnsweredAt p tag .ok (.snapshot snap) s.ports[p] s t ∧ Delivers k sl 0 s.ports[p].filter snap)

/-- The other reads are answered OK with what stands, and change nothing but the port's roster watch copy at READ ROSTER
STATE (R37, R110, R111, R145, R154). -/
def Obligations.ReadsChangeNoBlock : Prop :=
  ∀ (s : State) (p : PortId) (tag : Byte), Serves s p →
    (∃ t w streams, exec (.readRosterState p tag) s = .next t ∧ t = { s with ports := t.ports } ∧
      AnsweredAt p tag .ok (.roster (s.store.active.map fun _ => s.store.generation) streams)
        { s.ports[p] with watch := w } s t ∧
      (∀ i : StreamId, w[i] = s.supervisor.streams[i].health) ∧
      streams.length = 48 ∧
      (∀ i : StreamId, streams[i.val]? = some (s.supervisor.streams[i].health, s.store.activeStation i)) ∧
      rosterChanged t p = false) ∧
    (∀ index : Byte, (48 ≤ index.toNat →
        ∃ t, exec (.readStreamDetail p tag index) s = .next t ∧ Refuses p tag .invalid s t) ∧
      (∀ i : StreamId, i.val = index.toNat → ∃ t d, exec (.readStreamDetail p tag index) s = .next t ∧
        t = { s with ports := t.ports } ∧ AnsweredAt p tag .ok (.detail d) s.ports[p] s t ∧
        d.stream = i ∧ d.station = s.store.activeStation i ∧ d.health = s.supervisor.streams[i].health ∧
        d.faultCount = s.supervisor.streams[i].faultCount ∧ d.lastFault = s.supervisor.streams[i].lastFault ∧
        d.missStreak = s.supervisor.streams[i].missStreak ∧ d.onTimeStreak = s.supervisor.streams[i].onTimeStreak ∧
        d.quietLeft = s.supervisor.streams[i].quietTimer.map (fun x => x - s.timebase.elapsed) ∧
        d.silenceLeft = s.supervisor.streams[i].silenceTimer.map (fun x => x - s.timebase.elapsed) ∧
        d.lastAccepted = s.supervisor.streams[i].lastAccepted ∧ d.lastLane = s.supervisor.streams[i].lastLane ∧
        d.tracker = s.supervisor.streams[i].tracker ∧ d.slot = s.relay.slots[i] ∧ d.nextTag = s.relay.tags[i])) ∧
    (∃ t items, exec (.readWorstLatency p tag) s = .next t ∧ t = { s with ports := t.ports } ∧
      AnsweredAt p tag .ok (.worst items s.supervisor.worstSecond s.supervisor.fastWait) s.ports[p] s t ∧
      (∀ x ∈ items, x.1 ∈ s.supervisor.worst ∧ x.2.1 = s.supervisor.streams[x.1].health ∧
        some x.2.2 = s.supervisor.streams[x.1].tracker) ∧
      ((∀ i ∈ s.supervisor.worst, s.supervisor.streams[i].tracker.isSome = true) →
        items.map Prod.fst = s.supervisor.worst)) ∧
    (∃ t reports, exec (.readLanes p tag) s = .next t ∧ t = { s with ports := t.ports } ∧
      AnsweredAt p tag .ok (.lanes reports s.arbiter.position) s.ports[p] s t ∧ reports.length = 4 ∧
      ∀ l : LaneId, ∃ r, reports[l.val]? = some r ∧ r.up = s.lanes[l].up ∧ r.lastValid = s.lanes[l].lastValid ∧
        r.depth = s.lanes[l].queue.length ∧ r.deepest = s.lanes[l].deepest ∧ r.validCount = s.lanes[l].validCount ∧
        r.discardCount = s.lanes[l].discardCount ∧ r.overflowCount = s.lanes[l].overflowCount ∧
        r.outboundDepth = s.lanes[l].outbound.length ∧ r.sentCount = s.lanes[l].sentCount ∧
        r.dropCount = s.lanes[l].dropCount)

/-! ### Profiles -/

/-- PROFILE CURSOR and PROFILE GET (R118, R119, R121, R123): any cursor is accepted, a run of defined items is read from
the selected bank, and the cursor moves past the run in AFTER_EACH, to the next address, or from the end of the global items
to 16, or from a stream group's end to the next group; the bank's contents are not changed, and the claim's
timer starts again when the sender is the holder.  A GET is refused with INVALID for a count outside 1..64, with STATE for
the selector ACTIVE while no bank is active, and with INVALID for an undefined address in the run, in that order, and
leaves the cursor. -/
def Obligations.ProfileCursorAndGet : Prop :=
  ∀ (s : State) (p : PortId) (tag : Byte), Serves s p →
    let renewed := s.store.claim.map fun c =>
      if c.holder = p then { c with expires := s.timebase.elapsed + 1000000000 } else c
    (∀ (selector mode : Byte) (address : BitVec 16), selector.toNat ≤ 1 → mode.toNat ≤ 2 →
      ∃ t c, exec (.profileCursor p tag selector address mode) s = .next t ∧
        t = { s with ports := t.ports, store := { s.store with claim := renewed } } ∧
        AnsweredAt p tag .ok (.cursor c) { s.ports[p] with cursor := c } s t ∧ c.address = address.toNat ∧
        (c.selector = .active ↔ selector = 0) ∧ (c.mode = .none ↔ mode = 0) ∧ (c.mode = .afterEach ↔ mode = 1)) ∧
    (∀ (selector mode : Byte) (address : BitVec 16), (1 < selector.toNat ∨ 2 < mode.toNat) →
      ∃ t, exec (.profileCursor p tag selector address mode) s = .next t ∧
        t = { s with ports := t.ports, store := { s.store with claim := renewed } } ∧
        AnsweredAt p tag .invalid .empty s.ports[p] s t) ∧
    (∀ (count : Byte) (b : Bank),
      let refused := fun (code : Code) => ∃ t, exec (.profileGet p tag count) s = .next t ∧
        t = { s with ports := t.ports, store := { s.store with claim := renewed } } ∧
        AnsweredAt p tag code .empty s.ports[p] s t
      ((count.toNat < 1 ∨ 64 < count.toNat) → refused .invalid) ∧
      (1 ≤ count.toNat → count.toNat ≤ 64 → s.ports[p].cursor.selector = .active → s.store.active = none →
        refused .state) ∧
      (1 ≤ count.toNat → count.toNat ≤ 64 →
        (s.ports[p].cursor.selector = .active → ∃ a, s.store.active = some a ∧ b = s.store.bank a) →
        (s.ports[p].cursor.selector = .standby → b = s.store.bank s.store.standby) →
        (∃ k, k < count.toNat ∧ itemPlace (s.ports[p].cursor.address + k) = none) → refused .invalid)) ∧
    (∀ (count : Byte) (b : Bank), 1 ≤ count.toNat → count.toNat ≤ 64 →
      (s.ports[p].cursor.selector = .active → ∃ a, s.store.active = some a ∧ b = s.store.bank a) →
      (s.ports[p].cursor.selector = .standby → b = s.store.bank s.store.standby) →
      (∀ k, k < count.toNat → (itemPlace (s.ports[p].cursor.address + k)).isSome = true) →
      ∃ t values c, exec (.profileGet p tag count) s = .next t ∧
        t = { s with ports := t.ports, store := { s.store with claim := renewed } } ∧
        AnsweredAt p tag .ok (.items values c) { s.ports[p] with cursor := c } s t ∧
        values.length = count.toNat ∧
        (∀ k w, k < count.toNat → itemPlace (s.ports[p].cursor.address + k) = some w → values[k]? = some (b.read w)) ∧
        c.selector = s.ports[p].cursor.selector ∧ c.mode = s.ports[p].cursor.mode ∧
        (s.ports[p].cursor.mode ≠ .afterEach → c.address = s.ports[p].cursor.address) ∧
        (s.ports[p].cursor.mode = .afterEach → LandsOn (s.ports[p].cursor.address + count.toNat - 1) c.address))

/-- PROFILE PUT from the holder stores every value of a run of defined items in the standby bank and nothing else, and the
active bank keeps its contents; the cursor keeps its selector and mode, and in AFTER_EACH and AFTER_PUT moves past the run as
R121 says; from another port it is refused (R114, R120, R121, R123). -/
def Obligations.ProfilePutWritesStandby : Prop :=
  ∀ (s : State) (p : PortId) (tag : Byte) (values : List Word), Serves s p → 1 ≤ values.length → values.length ≤ 64 →
    ((∀ c, s.store.claim = some c → c.holder ≠ p) →
      ∃ t, exec (.profilePut p tag values) s = .next t ∧ Refuses p tag .notHolder s t) ∧
    (∀ claim, s.store.claim = some claim → claim.holder = p →
      ((∃ k, k < values.length ∧ itemPlace (s.ports[p].cursor.address + k) = none) →
        ∃ t, exec (.profilePut p tag values) s = .next t ∧
          t = { s with
            ports := t.ports
            store := { s.store with claim := some ⟨p, s.timebase.elapsed + 1000000000⟩ } } ∧
          AnsweredAt p tag .invalid .empty s.ports[p] s t) ∧
      ((∀ k, k < values.length → (itemPlace (s.ports[p].cursor.address + k)).isSome = true) →
        ∃ t c, exec (.profilePut p tag values) s = .next t ∧
          t = { s with
            ports := t.ports
            store := { s.store with
              claim := some ⟨p, s.timebase.elapsed + 1000000000⟩
              banks := t.store.banks } } ∧
          AnsweredAt p tag .ok (.cursor c) { s.ports[p] with cursor := c } s t ∧
          c.selector = s.ports[p].cursor.selector ∧ c.mode = s.ports[p].cursor.mode ∧
          (s.ports[p].cursor.mode = .none → c.address = s.ports[p].cursor.address) ∧
          (s.ports[p].cursor.mode ≠ .none → LandsOn (s.ports[p].cursor.address + values.length - 1) c.address) ∧
          (∀ b : BankId, b ≠ s.store.standby → t.store.bank b = s.store.bank b) ∧
          (∀ k w v, itemPlace (s.ports[p].cursor.address + k) = some w → values[k]? = some v →
            (t.store.bank s.store.standby).read w = v) ∧
          ∀ a w, itemPlace a = some w → (a < s.ports[p].cursor.address ∨ s.ports[p].cursor.address + values.length ≤ a) →
            (t.store.bank s.store.standby).read w = (s.store.bank s.store.standby).read w))

/-- BEGIN EDIT and ABANDON EDIT (R122, R124): the four situations of the claim, and its release by the holder alone. -/
def Obligations.EditClaimTaken : Prop :=
  ∀ (s : State) (p : PortId) (tag : Byte), Serves s p →
    let own : Claim := ⟨p, s.timebase.elapsed + 1000000000⟩
    ((∃ c, s.store.claim = some c ∧ c.holder ≠ p) →
      (∃ t, exec (.beginEdit p tag) s = .next t ∧ Refuses p tag .held s t) ∧
      (∃ t, exec (.abandonEdit p tag) s = .next t ∧ Refuses p tag .notHolder s t)) ∧
    ((∃ c, s.store.claim = some c ∧ c.holder = p) →
      (∃ t, exec (.beginEdit p tag) s = .next t ∧
        t = { s with ports := t.ports, store := { s.store with claim := some own } } ∧
        AnsweredAt p tag .ok .empty s.ports[p] s t) ∧
      (∃ t, exec (.abandonEdit p tag) s = .next t ∧
        t = { s with ports := t.ports, store := { s.store with claim := none } } ∧
        AnsweredAt p tag .ok .empty s.ports[p] s t)) ∧
    (s.store.claim = none →
      (∃ t, exec (.abandonEdit p tag) s = .next t ∧ Refuses p tag .notHolder s t) ∧
      ((s.store.pendingSwitch.isSome = true ∨ s.store.draining.isSome = true) →
        ∃ t, exec (.beginEdit p tag) s = .next t ∧ Refuses p tag .state s t) ∧
      (s.store.pendingSwitch = none → s.store.draining = none →
        ∃ t, exec (.beginEdit p tag) s = .next t ∧
          t = { s with ports := t.ports, store := { s.store with claim := some own } } ∧
          AnsweredAt p tag .ok .empty s.ports[p] s t))

/-- COMMIT SWITCH AT_SECOND, its checks in the order of R125: without the claim NOT_HOLDER; with it, an unknown mode
INVALID, no active bank or no local time STATE, a switch second out of range INVALID, a failing standby bank REFUSED with
the failing address, each keeping the claim with its timer restarted; and otherwise the switch is pending and the claim
released (R123, R128).  Validation finds the first item, in address order, whose check of R126 or R127 fails; a bank whose
items all pass fails at address 16 when it enables no stream, and passes otherwise. -/
def Obligations.CommitAtSecondSchedules : Prop :=
  (∀ b : Bank,
    (∀ a, b.failing = some a ↔ (FailsAt b a ∧ ∀ a', a' < a → ¬ FailsAt b a') ∨
      (a = 16 ∧ (∀ a', ¬ FailsAt b a') ∧ ∀ i : StreamId, b.enabled i = false)) ∧
    (b.failing = none ↔ (∀ a, ¬ FailsAt b a) ∧ ∃ i : StreamId, b.enabled i = true)) ∧
  ∀ (s : State) (p : PortId) (tag mode : Byte) (second : Word), Serves s p → mode ≠ 0 →
    let kept : ProfileStore := { s.store with claim := some ⟨p, s.timebase.elapsed + 1000000000⟩ }
    let refused := fun (t : State) (code : Code) (result : Result) =>
      t = { s with ports := t.ports, store := kept } ∧ AnsweredAt p tag code result s.ports[p] s t
    let standby := s.store.bank s.store.standby
    ((∀ c, s.store.claim = some c → c.holder ≠ p) →
      ∃ t, exec (.commitSwitchAtSecond p tag mode second) s = .next t ∧ Refuses p tag .notHolder s t) ∧
    (∀ c, s.store.claim = some c → c.holder = p →
      ∃ t, exec (.commitSwitchAtSecond p tag mode second) s = .next t ∧
        (mode ≠ 1 → refused t .invalid .empty) ∧
        (mode = 1 → (s.store.active = none ∨ s.timebase.localTime = none) → refused t .state .empty) ∧
        (∀ t₀, mode = 1 → s.store.active.isSome = true → s.timebase.localTime = some t₀ →
          ((second.toNat < t₀.second + 2 ∨ t₀.second + 3600 < second.toNat) → refused t .invalid .empty) ∧
          (t₀.second + 2 ≤ second.toNat → second.toNat ≤ t₀.second + 3600 →
            (∀ a, standby.failing = some a → refused t .refused (.failing a)) ∧
            (standby.failing = none →
              t = { s with
                ports := t.ports
                store := { s.store with claim := none, pendingSwitch := some second.toNat } } ∧
              AnsweredAt p tag .ok .empty s.ports[p] s t))))

/-- COMMIT SWITCH NOW in UNPROVISIONED activates a standby bank that passes validation: it is active, the generation
advances, every enabled stream is awaiting, PROFILE_SWITCHED is raised, and with local time set the current epoch is
declared passed; while a bank is active it is refused with STATE, and without the claim with NOT_HOLDER, before anything
else (R20, R63, R108, R125, R129). -/
def Obligations.CommitNowProvisions : Prop :=
  ∀ (s : State) (p : PortId) (tag : Byte) (ignored : Word), Serves s p →
    ((∀ c, s.store.claim = some c → c.holder ≠ p) →
      ∃ t, exec (.commitSwitchNow p tag ignored) s = .next t ∧ Refuses p tag .notHolder s t) ∧
    ∀ claim : Claim, s.store.claim = some claim → claim.holder = p →
    let b := s.store.standby
    let bank := s.store.bank b
    let kept : ProfileStore := { s.store with claim := some ⟨p, s.timebase.elapsed + 1000000000⟩ }
    (s.store.active.isSome = true → ∃ t, exec (.commitSwitchNow p tag ignored) s = .next t ∧
      t = { s with ports := t.ports, store := kept } ∧ AnsweredAt p tag .state .empty s.ports[p] s t) ∧
    (∀ a, s.store.active = none → bank.failing = some a → ∃ t, exec (.commitSwitchNow p tag ignored) s = .next t ∧
      t = { s with ports := t.ports, store := kept } ∧ AnsweredAt p tag .refused (.failing a) s.ports[p] s t) ∧
    (s.store.active = none → bank.failing = none → ∃ t, exec (.commitSwitchNow p tag ignored) s = .next t ∧
      t = { s with ports := t.ports, store := t.store, supervisor := t.supervisor, table := t.table } ∧
      t.store = { s.store with
        active := some b
        standby := t.store.standby
        generation := s.store.generation + 1
        lastSwitch := none
        claim := none
        pendingSwitch := none
        draining := none } ∧ t.store.standby ≠ b ∧
      (∀ i : StreamId, t.supervisor.streams[i] =
        if bank.enabled i then { StreamRecord.unconfigured with
          health := .awaiting
          silenceTimer := some (s.timebase.elapsed + bank.silenceLimit * 100000000) }
        else StreamRecord.unconfigured) ∧
      (s.timebase.localTime = none → t.table = s.table) ∧
      (∀ t₀, s.timebase.localTime = some t₀ → t.table = { s.table with
        horizon := some ⟨t₀.second, t₀.ns * bank.rate / 1000000000⟩
        mark := true }) ∧
      (∀ q : PortId, q ≠ p → Raised [.profileSwitched] s.ports[q] t.ports[q]) ∧
      Raised [.profileSwitched] (answered tag .ok .empty s.ports[p]) t.ports[p])

/-- CANCEL SWITCH from any port withdraws a pending switch and nothing else, and the active bank governs every second from
then on; with none pending it is refused with STATE (R130). -/
def Obligations.CancelWithdrawsSwitch : Prop :=
  ∀ (s : State) (p : PortId) (tag : Byte), Serves s p →
    (s.store.pendingSwitch.isSome = true → ∃ t, exec (.cancelSwitch p tag) s = .next t ∧
      t = { s with ports := t.ports, store := { s.store with pendingSwitch := none } } ∧
      AnsweredAt p tag .ok .empty s.ports[p] s t ∧
      (s.store.draining = none → ∀ x, t.store.governingBank x = s.store.activeBank)) ∧
    (s.store.pendingSwitch = none → ∃ t, exec (.cancelSwitch p tag) s = .next t ∧ Refuses p tag .state s t)

/-! ### Streams, reference, clearing -/

/-- STREAM COMMAND, its checks in the order of R136, with NO_ROUTE when the stream has no route, be another lane UP or not,
and a HALTED stream reached over the lowest-numbered lane that is UP when its last lane is absent or DOWN; an issued command takes the stream's tag, makes the slot PENDING for
2 s, and hands the frame to the lane of the route, which drops and counts it when 16 frames wait (R29, R135 to R137). -/
def Obligations.StreamCommandIssued : Prop :=
  ∀ (s : State) (p : PortId) (tag index action : Byte), Serves s p →
    ((48 ≤ index.toNat ∨ 2 < action.toNat) →
      ∃ t, exec (.streamCommand p tag index action) s = .next t ∧ Refuses p tag .invalid s t) ∧
    (∀ i : StreamId, index.toNat = i.val → action.toNat ≤ 2 →
      (s.supervisor.streams[i].health = .unconfigured →
        ∃ t, exec (.streamCommand p tag index action) s = .next t ∧ Refuses p tag .invalid s t) ∧
      (s.supervisor.streams[i].health ≠ .unconfigured → s.relay.slots[i].isSome = true →
        ∃ t, exec (.streamCommand p tag index action) s = .next t ∧ Refuses p tag .busy s t) ∧
      (∀ station, s.supervisor.streams[i].health ≠ .unconfigured → s.relay.slots[i] = none →
        s.store.activeStation i = some station →
        ((∃ j : StreamId, ∃ c, j ≠ i ∧ s.relay.slots[j] = some c ∧ c.station = station) →
          ∃ t, exec (.streamCommand p tag index action) s = .next t ∧ Refuses p tag .busy s t) ∧
        ((∀ j : StreamId, ∀ c, s.relay.slots[j] = some c → c.station ≠ station) →
          ((∀ l : LaneId, ¬ Routes s i l) →
            ∃ t, exec (.streamCommand p tag index action) s = .next t ∧ Refuses p tag .noRoute s t) ∧
          (∀ l : LaneId, Routes s i l →
            ∃ t a, exec (.streamCommand p tag index action) s = .next t ∧
              (a = Action.halt ↔ action = 0) ∧ (a = Action.resume ↔ action = 1) ∧
              t = { s with ports := t.ports, relay := t.relay, lanes := t.lanes } ∧
              AnsweredAt p tag .ok (.command s.relay.tags[i] l) s.ports[p] s t ∧
              (t.relay.slots[i] = some
                { action := a, port := p, station := station, tag := s.relay.tags[i], lane := l
                  issued := s.timebase.elapsed, timeout := s.timebase.elapsed + 200000000 } ∧
                t.relay.tags[i] = s.relay.tags[i] + 1 ∧
                ∀ j : StreamId, j ≠ i → t.relay.slots[j] = s.relay.slots[j] ∧ t.relay.tags[j] = s.relay.tags[j]) ∧
              (∀ m : LaneId, m ≠ l → t.lanes[m] = s.lanes[m]) ∧
              t.lanes[l] = (if s.lanes[l].outbound.length < 16
                then { s.lanes[l] with outbound := s.lanes[l].outbound ++ [⟨station, s.relay.tags[i], a⟩] }
                else { s.lanes[l] with dropCount := s.lanes[l].dropCount + 1 })))))

/-- RELEASE STREAM ends a quarantine and ACCEPT REFERENCE arms acceptance in REJECTED; in any other state each is refused
with STATE, and an index outside 0..47 with INVALID (R15, R91, R97). -/
def Obligations.ReleaseAndAccept : Prop :=
  ∀ (s : State) (p : PortId) (tag : Byte), Serves s p →
    (∀ index : Byte, 48 ≤ index.toNat →
      ∃ t, exec (.releaseStream p tag index) s = .next t ∧ Refuses p tag .invalid s t) ∧
    (∀ (index : Byte) (i : StreamId), index.toNat = i.val →
      (s.supervisor.streams[i].health ≠ .quarantined →
        ∃ t, exec (.releaseStream p tag index) s = .next t ∧ Refuses p tag .state s t) ∧
      (∀ a, s.supervisor.streams[i].health = .quarantined → s.store.active = some a →
        ∃ t, exec (.releaseStream p tag index) s = .next t ∧
          t = { s with ports := t.ports, supervisor := { s.supervisor with streams := t.supervisor.streams } } ∧
          AnsweredAt p tag .ok .empty s.ports[p] s t ∧
          (∀ j : StreamId, j ≠ i → t.supervisor.streams[j] = s.supervisor.streams[j]) ∧
          t.supervisor.streams[i] = { s.supervisor.streams[i] with
            health := .awaiting
            faultCount := 0
            quietTimer := none
            missStreak := 0
            onTimeStreak := 0
            silenceTimer := some (s.timebase.elapsed + (s.store.bank a).silenceLimit * 100000000) })) ∧
    (s.timebase.state = .rejected → ∃ t, exec (.acceptReference p tag) s = .next t ∧
      t = { s with ports := t.ports, timebase := { s.timebase with acceptance := .armed } } ∧
      AnsweredAt p tag .ok .empty s.ports[p] s t) ∧
    (s.timebase.state ≠ .rejected → ∃ t, exec (.acceptReference p tag) s = .next t ∧ Refuses p tag .state s t)

/-- CLEAR ALIGNMENT empties the table, keeps the sequence numbers, sets the mark and the horizon, starts the stream
judgment afresh and moves every port's cursors to the next numbers with TABLE_CLEARED; the other blocks are not reached
(R85, R109, R155). -/
def Obligations.ClearAlignmentClears : Prop :=
  ∀ (s : State) (p : PortId) (tag : Byte), Serves s p →
    let moved := fun (q : Port) => { q with fastCursor := s.table.nextFast, fullCursor := s.table.nextFull }
    ∃ t, exec (.clearAlignment p tag) s = .next t ∧
      t = { s with
        table := { s.table with slots := [], mark := true, horizon := t.table.horizon }
        supervisor := { s.supervisor with streams := t.supervisor.streams, worst := [], worstSecond := none }
        ports := t.ports } ∧
      (s.device ≠ .aligning → t.table.horizon = s.table.horizon) ∧
      (∀ c, s.device = .aligning → s.currentEpoch = some c → t.table.horizon = some c) ∧
      (∀ q : PortId, q ≠ p → Raised [.tableCleared] (moved s.ports[q]) t.ports[q]) ∧
      Raised [.tableCleared] (answered tag .ok (.numbers s.table.nextFast s.table.nextFull) (moved s.ports[p]))
        t.ports[p] ∧
      ∀ i : StreamId,
        let before := s.supervisor.streams[i]
        let after := t.supervisor.streams[i]
        after.lastLane = before.lastLane ∧ after.lastAccepted = before.lastAccepted ∧
        after.lastFault = before.lastFault ∧
        (before.health.judged = true → after.health = .awaiting ∧ after.faultCount = 0 ∧ after.tracker = none ∧
          after.quietTimer = none ∧ after.missStreak = 0 ∧ after.onTimeStreak = 0 ∧
          ∀ a, s.store.active = some a →
            after.silenceTimer = some (s.timebase.elapsed + (s.store.bank a).silenceLimit * 100000000)) ∧
        ((before.health = .halted ∨ before.health = .quarantined) →
          after = { before with missStreak := 0, onTimeStreak := 0, tracker := none }) ∧
        (before.health = .unconfigured → after = before)

/-- PORT RESET gives the sending port its reset values but for the handler, the receiver and the outbound queue, sets its
cursors to the next numbers and releases a claim it holds; no other block or port is reached; its attention line is
deasserted, and ROSTER_CHANGED is present where a stream is configured (R124, R156, R158). -/
def Obligations.PortResetResetsPort : Prop :=
  ∀ (s : State) (p : PortId) (tag : Byte), Serves s p →
    ∃ t, exec (.portReset p tag) s = .next t ∧
      t = { s with ports := t.ports, store := { s.store with claim := t.store.claim } } ∧
      ((∃ c, s.store.claim = some c ∧ c.holder = p) → t.store.claim = none) ∧
      ((∀ c, s.store.claim = some c → c.holder ≠ p) → t.store.claim = s.store.claim) ∧
      OtherPortsSame p s t ∧
      t.ports[p] = { s.ports[p] with
        handler := .responding
        outbound := s.ports[p].outbound ++
          [{ tag := tag, reply := { code := .ok, result := .empty }, ofRequest := true }]
        takenCount := 0
        busyCount := 0
        discardCount := 0
        skippedCount := 0
        subFast := false
        subFull := false
        fastCursor := s.table.nextFast
        fullCursor := s.table.nextFull
        filter := []
        mask := 0
        latched := 0
        watch := t.ports[p].watch
        outcome := none
        cursor := ⟨.active, 0, .none⟩ } ∧
      (∀ i : StreamId, t.ports[p].watch[i] = .unconfigured) ∧
      attention t p = false ∧
      (rosterChanged t p = true ↔ ∃ i : StreamId, s.supervisor.streams[i].health ≠ .unconfigured)

/-! ### Invariants of every step -/

/-- The profile store keeps its laws at every step, and no step but a power-on changes the contents of the active bank. -/
def Obligations.StoreInvariant : Prop :=
  ∀ s t : State, StoreInv s.store → step s = .next t →
    StoreInv t.store ∧
    ∀ a c rest, s.store.active = some a → s.pending = c :: rest → c ≠ .powerOn → c ≠ .supplyBelowLimit →
      t.store.bank a = s.store.bank a

/-- The alignment table keeps its laws at every step, and every cursor stays at or below the next number of its kind. -/
def Obligations.TableInvariant : Prop :=
  ∀ s t : State, TableInv s → CursorInv s → step s = .next t → TableInv t ∧ CursorInv t

/-- The stream supervisor keeps its laws at every step. -/
def Obligations.SupervisorInvariant : Prop :=
  ∀ s t : State, StoreInv s.store → SupervisorInv s → step s = .next t → SupervisorInv t

/-- The timebase keeps its laws at every step, and local time never decreases between two resets (R2). -/
def Obligations.TimebaseInvariant : Prop :=
  ∀ s t : State, TimebaseInv s.timebase → step s = .next t →
    TimebaseInv t.timebase ∧
    ((∀ c rest, s.pending = c :: rest → Instr.isReset c = false) →
      ∀ t₀, s.timebase.localTime = some t₀ →
        ∃ t₁, t.timebase.localTime = some t₁ ∧
          t₀.second * 1000000000 + t₀.ns ≤ t₁.second * 1000000000 + t₁.ns)

/-- The queues of lanes and ports and the command slots keep their limits at every step. -/
def Obligations.LinkInvariant : Prop :=
  ∀ s t : State, LinkInv s → step s = .next t → LinkInv t

/-- The state after reset meets every invariant. -/
def Obligations.ResetMeetsInvariants : Prop :=
  StoreInv State.reset.store ∧ TableInv State.reset ∧ CursorInv State.reset ∧ SupervisorInv State.reset ∧
    TimebaseInv State.reset.timebase ∧ LinkInv State.reset

/-- A port's conditions are its own (R174, R175): no request of another port changes its mask, watch copy, link,
subscription or profile cursor, and no command but its own READ CONDITIONS and PORT RESET and the resets of the part
takes a kind from its latched set. -/
def Obligations.ConditionsBelongToThePort : Prop :=
  ∀ (c : Instr) (s t : State) (q : PortId), exec c s = .next t →
    (∀ p tag code payload, encodeRequest c = some (p, tag, code, payload) → p ≠ q →
      t.ports[q] = { s.ports[q] with
        latched := t.ports[q].latched
        fastCursor := t.ports[q].fastCursor
        fullCursor := t.ports[q].fullCursor }) ∧
    (Instr.isReset c = false → (∀ tag, c ≠ .readConditions q tag) → (∀ tag, c ≠ .portReset q tag) →
      ∀ k : Kind, kindIn k s.ports[q].latched = true → kindIn k t.ports[q].latched = true)
end

