-- ==== Sys2Proof/Laws/Bytes.lean ====
section
/-! SUPPORT. Byte order: what `bytesOf` writes, `valueOf` reads back. -/

namespace Sys2Proof.Machine

@[simp] theorem length_bytesOf (n v : Nat) : (bytesOf n v).length = n := by
  induction n with
  | zero => rfl
  | succ n ih => simp [bytesOf, ih]

theorem foldl_valueOf (bs : List Byte) (acc : Nat) :
    bs.foldl (fun acc b => acc * 256 + b.toNat) acc = acc * 256 ^ bs.length + valueOf bs := by
  induction bs generalizing acc with
  | nil => simp [valueOf]
  | cons b bs ih =>
    have h : valueOf (b :: bs) = bs.foldl (fun acc b => acc * 256 + b.toNat) (0 * 256 + b.toNat) := rfl
    rw [List.foldl_cons, ih, h, ih, List.length_cons, Nat.pow_succ]
    ring

theorem valueOf_cons (b : Byte) (bs : List Byte) : valueOf (b :: bs) = b.toNat * 256 ^ bs.length + valueOf bs := by
  rw [valueOf, List.foldl_cons, foldl_valueOf]
  simp

theorem valueOf_lt (bs : List Byte) : valueOf bs < 256 ^ bs.length := by
  induction bs with
  | nil => simp [valueOf]
  | cons b bs ih =>
    rw [valueOf_cons, List.length_cons, Nat.pow_succ]
    have := b.isLt
    have h : b.toNat * 256 ^ bs.length + 256 ^ bs.length ≤ 256 ^ bs.length * 256 := by
      have : b.toNat + 1 ≤ 256 := this
      calc b.toNat * 256 ^ bs.length + 256 ^ bs.length = (b.toNat + 1) * 256 ^ bs.length := by ring
        _ ≤ 256 * 256 ^ bs.length := Nat.mul_le_mul_right _ this
        _ = _ := by ring
    omega

theorem valueOf_bytesOf_mod (n v : Nat) : valueOf (bytesOf n v) = v % 256 ^ n := by
  induction n generalizing v with
  | zero => simp [bytesOf, valueOf, Nat.mod_one]
  | succ n ih =>
    rw [bytesOf, valueOf_cons, ih, length_bytesOf, BitVec.toNat_ofNat]
    change v / 256 ^ n % 256 * 256 ^ n + v % 256 ^ n = v % (256 ^ n * 256)
    rw [Nat.mod_mul, Nat.mul_comm, Nat.add_comm]

/-- A value that fits is read back as it was written. -/
theorem valueOf_bytesOf {n v : Nat} (h : v < 256 ^ n) : valueOf (bytesOf n v) = v := by
  rw [valueOf_bytesOf_mod, Nat.mod_eq_of_lt h]

theorem valueOf_crc16 (bs : List Byte) : valueOf (bytesOf 2 (crc16 bs).toNat) = (crc16 bs).toNat :=
  valueOf_bytesOf (crc16 bs).isLt

theorem valueOf_crc32 (bs : List Byte) : valueOf (bytesOf 4 (crc32 bs).toNat) = (crc32 bs).toNat :=
  valueOf_bytesOf (crc32 bs).isLt

@[simp] theorem valueOf_singleton (b : Byte) : valueOf [b] = b.toNat := by simp [valueOf]

end Sys2Proof.Machine
end

