-- ==== Sys2Proof/Laws/State.lean ====
section
/-! SUPPORT. One lemma per field and update of the state, and the reading of a changed vector. -/

namespace Sys2Proof.Machine

/-! ### Changed vectors -/

variable {α : Type} {n : Nat}

theorem update_get (v : Vector α n) (i j : Fin n) (f : α → α) :
    (update v i f)[j.val] = if j = i then f v[j.val] else v[j.val] := by
  simp [update]

@[simp] theorem update_get_self (v : Vector α n) (i : Fin n) (f : α → α) : (update v i f)[i.val] = f v[i.val] := by
  simp [update]

@[simp] theorem update_get_ne (v : Vector α n) {i j : Fin n} (f : α → α) (h : j ≠ i) :
    (update v i f)[j.val] = v[j.val] := by
  simp [update, h]

@[simp] theorem updateAll_get (v : Vector α n) (f : Fin n → α → α) (j : Fin n) :
    (updateAll v f)[j.val] = f j v[j.val] := by
  simp [updateAll]

/-- A change that leaves its place alone leaves the vector alone. -/
theorem update_same (v : Vector α n) (i : Fin n) (f : α → α) (h : f v[i] = v[i]) : update v i f = v := by
  ext j hj
  have := update_get v i ⟨j, hj⟩ f
  by_cases e : (⟨j, hj⟩ : Fin n) = i
  · subst e
    simp at this h ⊢
    rw [this, h]
  · simp [e] at this
    exact this

/-! ### The fields of the state after each update -/

variable (s : State)

@[simp] theorem State.updLane_timebase (l : LaneId) (f : Lane → Lane) : (s.updLane l f).timebase = s.timebase := by
  simp [State.updLane]

@[simp] theorem State.updLane_lanes (l : LaneId) (f : Lane → Lane) : (s.updLane l f).lanes = update s.lanes l f := by
  simp [State.updLane]

@[simp] theorem State.updLane_arbiter (l : LaneId) (f : Lane → Lane) : (s.updLane l f).arbiter = s.arbiter := by
  simp [State.updLane]

@[simp] theorem State.updLane_table (l : LaneId) (f : Lane → Lane) : (s.updLane l f).table = s.table := by
  simp [State.updLane]

@[simp] theorem State.updLane_supervisor (l : LaneId) (f : Lane → Lane) : (s.updLane l f).supervisor = s.supervisor := by
  simp [State.updLane]

@[simp] theorem State.updLane_store (l : LaneId) (f : Lane → Lane) : (s.updLane l f).store = s.store := by
  simp [State.updLane]

@[simp] theorem State.updLane_relay (l : LaneId) (f : Lane → Lane) : (s.updLane l f).relay = s.relay := by
  simp [State.updLane]

@[simp] theorem State.updLane_ports (l : LaneId) (f : Lane → Lane) : (s.updLane l f).ports = s.ports := by
  simp [State.updLane]

@[simp] theorem State.updLane_supplies (l : LaneId) (f : Lane → Lane) : (s.updLane l f).supplies = s.supplies := by
  simp [State.updLane]

@[simp] theorem State.updLane_resetLow (l : LaneId) (f : Lane → Lane) : (s.updLane l f).resetLow = s.resetLow := by
  simp [State.updLane]

@[simp] theorem State.updLane_pending (l : LaneId) (f : Lane → Lane) : (s.updLane l f).pending = s.pending := by
  simp [State.updLane]

@[simp] theorem State.updPort_timebase (p : PortId) (f : Port → Port) : (s.updPort p f).timebase = s.timebase := by
  simp [State.updPort]

@[simp] theorem State.updPort_lanes (p : PortId) (f : Port → Port) : (s.updPort p f).lanes = s.lanes := by
  simp [State.updPort]

@[simp] theorem State.updPort_arbiter (p : PortId) (f : Port → Port) : (s.updPort p f).arbiter = s.arbiter := by
  simp [State.updPort]

@[simp] theorem State.updPort_table (p : PortId) (f : Port → Port) : (s.updPort p f).table = s.table := by
  simp [State.updPort]

@[simp] theorem State.updPort_supervisor (p : PortId) (f : Port → Port) : (s.updPort p f).supervisor = s.supervisor := by
  simp [State.updPort]

@[simp] theorem State.updPort_store (p : PortId) (f : Port → Port) : (s.updPort p f).store = s.store := by
  simp [State.updPort]

@[simp] theorem State.updPort_relay (p : PortId) (f : Port → Port) : (s.updPort p f).relay = s.relay := by
  simp [State.updPort]

@[simp] theorem State.updPort_ports (p : PortId) (f : Port → Port) : (s.updPort p f).ports = update s.ports p f := by
  simp [State.updPort]

@[simp] theorem State.updPort_supplies (p : PortId) (f : Port → Port) : (s.updPort p f).supplies = s.supplies := by
  simp [State.updPort]

@[simp] theorem State.updPort_resetLow (p : PortId) (f : Port → Port) : (s.updPort p f).resetLow = s.resetLow := by
  simp [State.updPort]

@[simp] theorem State.updPort_pending (p : PortId) (f : Port → Port) : (s.updPort p f).pending = s.pending := by
  simp [State.updPort]

@[simp] theorem State.updPorts_timebase (f : PortId → Port → Port) : (s.updPorts f).timebase = s.timebase := by
  simp [State.updPorts]

@[simp] theorem State.updPorts_lanes (f : PortId → Port → Port) : (s.updPorts f).lanes = s.lanes := by
  simp [State.updPorts]

@[simp] theorem State.updPorts_arbiter (f : PortId → Port → Port) : (s.updPorts f).arbiter = s.arbiter := by
  simp [State.updPorts]

@[simp] theorem State.updPorts_table (f : PortId → Port → Port) : (s.updPorts f).table = s.table := by
  simp [State.updPorts]

@[simp] theorem State.updPorts_supervisor (f : PortId → Port → Port) : (s.updPorts f).supervisor = s.supervisor := by
  simp [State.updPorts]

@[simp] theorem State.updPorts_store (f : PortId → Port → Port) : (s.updPorts f).store = s.store := by
  simp [State.updPorts]

@[simp] theorem State.updPorts_relay (f : PortId → Port → Port) : (s.updPorts f).relay = s.relay := by
  simp [State.updPorts]

@[simp] theorem State.updPorts_ports (f : PortId → Port → Port) : (s.updPorts f).ports = updateAll s.ports f := by
  simp [State.updPorts]

@[simp] theorem State.updPorts_supplies (f : PortId → Port → Port) : (s.updPorts f).supplies = s.supplies := by
  simp [State.updPorts]

@[simp] theorem State.updPorts_resetLow (f : PortId → Port → Port) : (s.updPorts f).resetLow = s.resetLow := by
  simp [State.updPorts]

@[simp] theorem State.updPorts_pending (f : PortId → Port → Port) : (s.updPorts f).pending = s.pending := by
  simp [State.updPorts]

@[simp] theorem State.updStream_timebase (i : StreamId) (f : StreamRecord → StreamRecord) : (s.updStream i f).timebase = s.timebase := by
  simp [State.updStream]

@[simp] theorem State.updStream_lanes (i : StreamId) (f : StreamRecord → StreamRecord) : (s.updStream i f).lanes = s.lanes := by
  simp [State.updStream]

@[simp] theorem State.updStream_arbiter (i : StreamId) (f : StreamRecord → StreamRecord) : (s.updStream i f).arbiter = s.arbiter := by
  simp [State.updStream]

@[simp] theorem State.updStream_table (i : StreamId) (f : StreamRecord → StreamRecord) : (s.updStream i f).table = s.table := by
  simp [State.updStream]

@[simp] theorem State.updStream_supervisor (i : StreamId) (f : StreamRecord → StreamRecord) : (s.updStream i f).supervisor = { s.supervisor with streams := update s.supervisor.streams i f } := by
  simp [State.updStream]

@[simp] theorem State.updStream_store (i : StreamId) (f : StreamRecord → StreamRecord) : (s.updStream i f).store = s.store := by
  simp [State.updStream]

@[simp] theorem State.updStream_relay (i : StreamId) (f : StreamRecord → StreamRecord) : (s.updStream i f).relay = s.relay := by
  simp [State.updStream]

@[simp] theorem State.updStream_ports (i : StreamId) (f : StreamRecord → StreamRecord) : (s.updStream i f).ports = s.ports := by
  simp [State.updStream]

@[simp] theorem State.updStream_supplies (i : StreamId) (f : StreamRecord → StreamRecord) : (s.updStream i f).supplies = s.supplies := by
  simp [State.updStream]

@[simp] theorem State.updStream_resetLow (i : StreamId) (f : StreamRecord → StreamRecord) : (s.updStream i f).resetLow = s.resetLow := by
  simp [State.updStream]

@[simp] theorem State.updStream_pending (i : StreamId) (f : StreamRecord → StreamRecord) : (s.updStream i f).pending = s.pending := by
  simp [State.updStream]

@[simp] theorem State.latchIn_timebase (p : PortId) (k : Kind) : (s.latchIn p k).timebase = s.timebase := by
  simp [State.latchIn]

@[simp] theorem State.latchIn_lanes (p : PortId) (k : Kind) : (s.latchIn p k).lanes = s.lanes := by
  simp [State.latchIn]

@[simp] theorem State.latchIn_arbiter (p : PortId) (k : Kind) : (s.latchIn p k).arbiter = s.arbiter := by
  simp [State.latchIn]

@[simp] theorem State.latchIn_table (p : PortId) (k : Kind) : (s.latchIn p k).table = s.table := by
  simp [State.latchIn]

@[simp] theorem State.latchIn_supervisor (p : PortId) (k : Kind) : (s.latchIn p k).supervisor = s.supervisor := by
  simp [State.latchIn]

@[simp] theorem State.latchIn_store (p : PortId) (k : Kind) : (s.latchIn p k).store = s.store := by
  simp [State.latchIn]

@[simp] theorem State.latchIn_relay (p : PortId) (k : Kind) : (s.latchIn p k).relay = s.relay := by
  simp [State.latchIn]

@[simp] theorem State.latchIn_ports (p : PortId) (k : Kind) : (s.latchIn p k).ports = update s.ports p (Port.latch k) := by
  simp [State.latchIn]

@[simp] theorem State.latchIn_supplies (p : PortId) (k : Kind) : (s.latchIn p k).supplies = s.supplies := by
  simp [State.latchIn]

@[simp] theorem State.latchIn_resetLow (p : PortId) (k : Kind) : (s.latchIn p k).resetLow = s.resetLow := by
  simp [State.latchIn]

@[simp] theorem State.latchIn_pending (p : PortId) (k : Kind) : (s.latchIn p k).pending = s.pending := by
  simp [State.latchIn]

@[simp] theorem State.latchAll_timebase (k : Kind) : (s.latchAll k).timebase = s.timebase := by
  simp [State.latchAll]

@[simp] theorem State.latchAll_lanes (k : Kind) : (s.latchAll k).lanes = s.lanes := by
  simp [State.latchAll]

@[simp] theorem State.latchAll_arbiter (k : Kind) : (s.latchAll k).arbiter = s.arbiter := by
  simp [State.latchAll]

@[simp] theorem State.latchAll_table (k : Kind) : (s.latchAll k).table = s.table := by
  simp [State.latchAll]

@[simp] theorem State.latchAll_supervisor (k : Kind) : (s.latchAll k).supervisor = s.supervisor := by
  simp [State.latchAll]

@[simp] theorem State.latchAll_store (k : Kind) : (s.latchAll k).store = s.store := by
  simp [State.latchAll]

@[simp] theorem State.latchAll_relay (k : Kind) : (s.latchAll k).relay = s.relay := by
  simp [State.latchAll]

@[simp] theorem State.latchAll_ports (k : Kind) : (s.latchAll k).ports = updateAll s.ports fun _ => Port.latch k := by
  simp [State.latchAll]

@[simp] theorem State.latchAll_supplies (k : Kind) : (s.latchAll k).supplies = s.supplies := by
  simp [State.latchAll]

@[simp] theorem State.latchAll_resetLow (k : Kind) : (s.latchAll k).resetLow = s.resetLow := by
  simp [State.latchAll]

@[simp] theorem State.latchAll_pending (k : Kind) : (s.latchAll k).pending = s.pending := by
  simp [State.latchAll]

@[simp] theorem State.handMark_timebase : (s.handMark).timebase = s.timebase := by
  simp [State.handMark]

@[simp] theorem State.handMark_lanes : (s.handMark).lanes = s.lanes := by
  simp [State.handMark]

@[simp] theorem State.handMark_arbiter : (s.handMark).arbiter = s.arbiter := by
  simp [State.handMark]

@[simp] theorem State.handMark_table : (s.handMark).table = { s.table with mark := true } := by
  simp [State.handMark]

@[simp] theorem State.handMark_supervisor : (s.handMark).supervisor = s.supervisor := by
  simp [State.handMark]

@[simp] theorem State.handMark_store : (s.handMark).store = s.store := by
  simp [State.handMark]

@[simp] theorem State.handMark_relay : (s.handMark).relay = s.relay := by
  simp [State.handMark]

@[simp] theorem State.handMark_ports : (s.handMark).ports = s.ports := by
  simp [State.handMark]

@[simp] theorem State.handMark_supplies : (s.handMark).supplies = s.supplies := by
  simp [State.handMark]

@[simp] theorem State.handMark_resetLow : (s.handMark).resetLow = s.resetLow := by
  simp [State.handMark]

@[simp] theorem State.handMark_pending : (s.handMark).pending = s.pending := by
  simp [State.handMark]

@[simp] theorem State.setClaim_timebase (c : Option Claim) : (s.setClaim c).timebase = s.timebase := by
  simp [State.setClaim]

@[simp] theorem State.setClaim_lanes (c : Option Claim) : (s.setClaim c).lanes = s.lanes := by
  simp [State.setClaim]

@[simp] theorem State.setClaim_arbiter (c : Option Claim) : (s.setClaim c).arbiter = s.arbiter := by
  simp [State.setClaim]

@[simp] theorem State.setClaim_table (c : Option Claim) : (s.setClaim c).table = s.table := by
  simp [State.setClaim]

@[simp] theorem State.setClaim_supervisor (c : Option Claim) : (s.setClaim c).supervisor = s.supervisor := by
  simp [State.setClaim]

@[simp] theorem State.setClaim_store (c : Option Claim) : (s.setClaim c).store = { s.store with claim := c } := by
  simp [State.setClaim]

@[simp] theorem State.setClaim_relay (c : Option Claim) : (s.setClaim c).relay = s.relay := by
  simp [State.setClaim]

@[simp] theorem State.setClaim_ports (c : Option Claim) : (s.setClaim c).ports = s.ports := by
  simp [State.setClaim]

@[simp] theorem State.setClaim_supplies (c : Option Claim) : (s.setClaim c).supplies = s.supplies := by
  simp [State.setClaim]

@[simp] theorem State.setClaim_resetLow (c : Option Claim) : (s.setClaim c).resetLow = s.resetLow := by
  simp [State.setClaim]

@[simp] theorem State.setClaim_pending (c : Option Claim) : (s.setClaim c).pending = s.pending := by
  simp [State.setClaim]

@[simp] theorem State.startClaim_timebase (p : PortId) : (s.startClaim p).timebase = s.timebase := by
  simp [State.startClaim]

@[simp] theorem State.startClaim_lanes (p : PortId) : (s.startClaim p).lanes = s.lanes := by
  simp [State.startClaim]

@[simp] theorem State.startClaim_arbiter (p : PortId) : (s.startClaim p).arbiter = s.arbiter := by
  simp [State.startClaim]

@[simp] theorem State.startClaim_table (p : PortId) : (s.startClaim p).table = s.table := by
  simp [State.startClaim]

@[simp] theorem State.startClaim_supervisor (p : PortId) : (s.startClaim p).supervisor = s.supervisor := by
  simp [State.startClaim]

@[simp] theorem State.startClaim_store (p : PortId) : (s.startClaim p).store = { s.store with claim := some { holder := p, expires := s.after claimTime } } := by
  simp [State.startClaim]

@[simp] theorem State.startClaim_relay (p : PortId) : (s.startClaim p).relay = s.relay := by
  simp [State.startClaim]

@[simp] theorem State.startClaim_ports (p : PortId) : (s.startClaim p).ports = s.ports := by
  simp [State.startClaim]

@[simp] theorem State.startClaim_supplies (p : PortId) : (s.startClaim p).supplies = s.supplies := by
  simp [State.startClaim]

@[simp] theorem State.startClaim_resetLow (p : PortId) : (s.startClaim p).resetLow = s.resetLow := by
  simp [State.startClaim]

@[simp] theorem State.startClaim_pending (p : PortId) : (s.startClaim p).pending = s.pending := by
  simp [State.startClaim]

@[simp] theorem State.setCursor_timebase (p : PortId) (c : ProfileCursor) : (s.setCursor p c).timebase = s.timebase := by
  simp [State.setCursor]

@[simp] theorem State.setCursor_lanes (p : PortId) (c : ProfileCursor) : (s.setCursor p c).lanes = s.lanes := by
  simp [State.setCursor]

@[simp] theorem State.setCursor_arbiter (p : PortId) (c : ProfileCursor) : (s.setCursor p c).arbiter = s.arbiter := by
  simp [State.setCursor]

@[simp] theorem State.setCursor_table (p : PortId) (c : ProfileCursor) : (s.setCursor p c).table = s.table := by
  simp [State.setCursor]

@[simp] theorem State.setCursor_supervisor (p : PortId) (c : ProfileCursor) : (s.setCursor p c).supervisor = s.supervisor := by
  simp [State.setCursor]

@[simp] theorem State.setCursor_store (p : PortId) (c : ProfileCursor) : (s.setCursor p c).store = s.store := by
  simp [State.setCursor]

@[simp] theorem State.setCursor_relay (p : PortId) (c : ProfileCursor) : (s.setCursor p c).relay = s.relay := by
  simp [State.setCursor]

@[simp] theorem State.setCursor_ports (p : PortId) (c : ProfileCursor) : (s.setCursor p c).ports = update s.ports p fun q => { q with cursor := c } := by
  simp [State.setCursor]

@[simp] theorem State.setCursor_supplies (p : PortId) (c : ProfileCursor) : (s.setCursor p c).supplies = s.supplies := by
  simp [State.setCursor]

@[simp] theorem State.setCursor_resetLow (p : PortId) (c : ProfileCursor) : (s.setCursor p c).resetLow = s.resetLow := by
  simp [State.setCursor]

@[simp] theorem State.setCursor_pending (p : PortId) (c : ProfileCursor) : (s.setCursor p c).pending = s.pending := by
  simp [State.setCursor]

@[simp] theorem State.setStandby_timebase (b : Bank) : (s.setStandby b).timebase = s.timebase := by
  simp [State.setStandby]

@[simp] theorem State.setStandby_lanes (b : Bank) : (s.setStandby b).lanes = s.lanes := by
  simp [State.setStandby]

@[simp] theorem State.setStandby_arbiter (b : Bank) : (s.setStandby b).arbiter = s.arbiter := by
  simp [State.setStandby]

@[simp] theorem State.setStandby_table (b : Bank) : (s.setStandby b).table = s.table := by
  simp [State.setStandby]

@[simp] theorem State.setStandby_supervisor (b : Bank) : (s.setStandby b).supervisor = s.supervisor := by
  simp [State.setStandby]

@[simp] theorem State.setStandby_store (b : Bank) : (s.setStandby b).store = { s.store with banks := update s.store.banks s.store.standby fun _ => b } := by
  simp [State.setStandby]

@[simp] theorem State.setStandby_relay (b : Bank) : (s.setStandby b).relay = s.relay := by
  simp [State.setStandby]

@[simp] theorem State.setStandby_ports (b : Bank) : (s.setStandby b).ports = s.ports := by
  simp [State.setStandby]

@[simp] theorem State.setStandby_supplies (b : Bank) : (s.setStandby b).supplies = s.supplies := by
  simp [State.setStandby]

@[simp] theorem State.setStandby_resetLow (b : Bank) : (s.setStandby b).resetLow = s.resetLow := by
  simp [State.setStandby]

@[simp] theorem State.setStandby_pending (b : Bank) : (s.setStandby b).pending = s.pending := by
  simp [State.setStandby]

@[simp] theorem State.setCommand_timebase (i : StreamId) (c : Option CommandSlot) : (s.setCommand i c).timebase = s.timebase := by
  simp [State.setCommand]

@[simp] theorem State.setCommand_lanes (i : StreamId) (c : Option CommandSlot) : (s.setCommand i c).lanes = s.lanes := by
  simp [State.setCommand]

@[simp] theorem State.setCommand_arbiter (i : StreamId) (c : Option CommandSlot) : (s.setCommand i c).arbiter = s.arbiter := by
  simp [State.setCommand]

@[simp] theorem State.setCommand_table (i : StreamId) (c : Option CommandSlot) : (s.setCommand i c).table = s.table := by
  simp [State.setCommand]

@[simp] theorem State.setCommand_supervisor (i : StreamId) (c : Option CommandSlot) : (s.setCommand i c).supervisor = s.supervisor := by
  simp [State.setCommand]

@[simp] theorem State.setCommand_store (i : StreamId) (c : Option CommandSlot) : (s.setCommand i c).store = s.store := by
  simp [State.setCommand]

@[simp] theorem State.setCommand_relay (i : StreamId) (c : Option CommandSlot) : (s.setCommand i c).relay = { s.relay with slots := update s.relay.slots i fun _ => c } := by
  simp [State.setCommand]

@[simp] theorem State.setCommand_ports (i : StreamId) (c : Option CommandSlot) : (s.setCommand i c).ports = s.ports := by
  simp [State.setCommand]

@[simp] theorem State.setCommand_supplies (i : StreamId) (c : Option CommandSlot) : (s.setCommand i c).supplies = s.supplies := by
  simp [State.setCommand]

@[simp] theorem State.setCommand_resetLow (i : StreamId) (c : Option CommandSlot) : (s.setCommand i c).resetLow = s.resetLow := by
  simp [State.setCommand]

@[simp] theorem State.setCommand_pending (i : StreamId) (c : Option CommandSlot) : (s.setCommand i c).pending = s.pending := by
  simp [State.setCommand]

@[simp] theorem State.handOutcome_timebase (p : PortId) (o : CommandOutcome) : (s.handOutcome p o).timebase = s.timebase := by
  simp [State.handOutcome]

@[simp] theorem State.handOutcome_lanes (p : PortId) (o : CommandOutcome) : (s.handOutcome p o).lanes = s.lanes := by
  simp [State.handOutcome]

@[simp] theorem State.handOutcome_arbiter (p : PortId) (o : CommandOutcome) : (s.handOutcome p o).arbiter = s.arbiter := by
  simp [State.handOutcome]

@[simp] theorem State.handOutcome_table (p : PortId) (o : CommandOutcome) : (s.handOutcome p o).table = s.table := by
  simp [State.handOutcome]

@[simp] theorem State.handOutcome_supervisor (p : PortId) (o : CommandOutcome) : (s.handOutcome p o).supervisor = s.supervisor := by
  simp [State.handOutcome]

@[simp] theorem State.handOutcome_store (p : PortId) (o : CommandOutcome) : (s.handOutcome p o).store = s.store := by
  simp [State.handOutcome]

@[simp] theorem State.handOutcome_relay (p : PortId) (o : CommandOutcome) : (s.handOutcome p o).relay = s.relay := by
  simp [State.handOutcome]

@[simp] theorem State.handOutcome_ports (p : PortId) (o : CommandOutcome) : (s.handOutcome p o).ports = update s.ports p fun q => ({ q with outcome := some o }).latch .commandDone := by
  simp [State.handOutcome]

@[simp] theorem State.handOutcome_supplies (p : PortId) (o : CommandOutcome) : (s.handOutcome p o).supplies = s.supplies := by
  simp [State.handOutcome]

@[simp] theorem State.handOutcome_resetLow (p : PortId) (o : CommandOutcome) : (s.handOutcome p o).resetLow = s.resetLow := by
  simp [State.handOutcome]

@[simp] theorem State.handOutcome_pending (p : PortId) (o : CommandOutcome) : (s.handOutcome p o).pending = s.pending := by
  simp [State.handOutcome]

@[simp] theorem State.setLocal_timebase (x : Nat) : (s.setLocal x).timebase = { s.timebase with localTime := some (.ofSecond x) } := by
  simp [State.setLocal]

@[simp] theorem State.setLocal_lanes (x : Nat) : (s.setLocal x).lanes = s.lanes := by
  simp [State.setLocal]

@[simp] theorem State.setLocal_arbiter (x : Nat) : (s.setLocal x).arbiter = s.arbiter := by
  simp [State.setLocal]

@[simp] theorem State.setLocal_table (x : Nat) : (s.setLocal x).table = s.table := by
  simp [State.setLocal]

@[simp] theorem State.setLocal_supervisor (x : Nat) : (s.setLocal x).supervisor = s.supervisor := by
  simp [State.setLocal]

@[simp] theorem State.setLocal_store (x : Nat) : (s.setLocal x).store = s.store := by
  simp [State.setLocal]

@[simp] theorem State.setLocal_relay (x : Nat) : (s.setLocal x).relay = s.relay := by
  simp [State.setLocal]

@[simp] theorem State.setLocal_ports (x : Nat) : (s.setLocal x).ports = s.ports := by
  simp [State.setLocal]

@[simp] theorem State.setLocal_supplies (x : Nat) : (s.setLocal x).supplies = s.supplies := by
  simp [State.setLocal]

@[simp] theorem State.setLocal_resetLow (x : Nat) : (s.setLocal x).resetLow = s.resetLow := by
  simp [State.setLocal]

@[simp] theorem State.setLocal_pending (x : Nat) : (s.setLocal x).pending = s.pending := by
  simp [State.setLocal]

@[simp] theorem State.setCorrection_timebase (c : Correction) : (s.setCorrection c).timebase = { s.timebase with correction := c } := by
  simp [State.setCorrection]

@[simp] theorem State.setCorrection_lanes (c : Correction) : (s.setCorrection c).lanes = s.lanes := by
  simp [State.setCorrection]

@[simp] theorem State.setCorrection_arbiter (c : Correction) : (s.setCorrection c).arbiter = s.arbiter := by
  simp [State.setCorrection]

@[simp] theorem State.setCorrection_table (c : Correction) : (s.setCorrection c).table = s.table := by
  simp [State.setCorrection]

@[simp] theorem State.setCorrection_supervisor (c : Correction) : (s.setCorrection c).supervisor = s.supervisor := by
  simp [State.setCorrection]

@[simp] theorem State.setCorrection_store (c : Correction) : (s.setCorrection c).store = s.store := by
  simp [State.setCorrection]

@[simp] theorem State.setCorrection_relay (c : Correction) : (s.setCorrection c).relay = s.relay := by
  simp [State.setCorrection]

@[simp] theorem State.setCorrection_ports (c : Correction) : (s.setCorrection c).ports = s.ports := by
  simp [State.setCorrection]

@[simp] theorem State.setCorrection_supplies (c : Correction) : (s.setCorrection c).supplies = s.supplies := by
  simp [State.setCorrection]

@[simp] theorem State.setCorrection_resetLow (c : Correction) : (s.setCorrection c).resetLow = s.resetLow := by
  simp [State.setCorrection]

@[simp] theorem State.setCorrection_pending (c : Correction) : (s.setCorrection c).pending = s.pending := by
  simp [State.setCorrection]

@[simp] theorem State.notePps_timebase (x : Nat) : (s.notePps x).timebase = { s.timebase with prevSecond := some x, messageSincePps := false } := by
  simp [State.notePps]

@[simp] theorem State.notePps_lanes (x : Nat) : (s.notePps x).lanes = s.lanes := by
  simp [State.notePps]

@[simp] theorem State.notePps_arbiter (x : Nat) : (s.notePps x).arbiter = s.arbiter := by
  simp [State.notePps]

@[simp] theorem State.notePps_table (x : Nat) : (s.notePps x).table = s.table := by
  simp [State.notePps]

@[simp] theorem State.notePps_supervisor (x : Nat) : (s.notePps x).supervisor = s.supervisor := by
  simp [State.notePps]

@[simp] theorem State.notePps_store (x : Nat) : (s.notePps x).store = s.store := by
  simp [State.notePps]

@[simp] theorem State.notePps_relay (x : Nat) : (s.notePps x).relay = s.relay := by
  simp [State.notePps]

@[simp] theorem State.notePps_ports (x : Nat) : (s.notePps x).ports = s.ports := by
  simp [State.notePps]

@[simp] theorem State.notePps_supplies (x : Nat) : (s.notePps x).supplies = s.supplies := by
  simp [State.notePps]

@[simp] theorem State.notePps_resetLow (x : Nat) : (s.notePps x).resetLow = s.resetLow := by
  simp [State.notePps]

@[simp] theorem State.notePps_pending (x : Nat) : (s.notePps x).pending = s.pending := by
  simp [State.notePps]

@[simp] theorem State.keepMessage_timebase (m : TimeMessage) : (s.keepMessage m).timebase = { s.timebase with latest := some m, messageSincePps := true } := by
  simp [State.keepMessage]

@[simp] theorem State.keepMessage_lanes (m : TimeMessage) : (s.keepMessage m).lanes = s.lanes := by
  simp [State.keepMessage]

@[simp] theorem State.keepMessage_arbiter (m : TimeMessage) : (s.keepMessage m).arbiter = s.arbiter := by
  simp [State.keepMessage]

@[simp] theorem State.keepMessage_table (m : TimeMessage) : (s.keepMessage m).table = s.table := by
  simp [State.keepMessage]

@[simp] theorem State.keepMessage_supervisor (m : TimeMessage) : (s.keepMessage m).supervisor = s.supervisor := by
  simp [State.keepMessage]

@[simp] theorem State.keepMessage_store (m : TimeMessage) : (s.keepMessage m).store = s.store := by
  simp [State.keepMessage]

@[simp] theorem State.keepMessage_relay (m : TimeMessage) : (s.keepMessage m).relay = s.relay := by
  simp [State.keepMessage]

@[simp] theorem State.keepMessage_ports (m : TimeMessage) : (s.keepMessage m).ports = s.ports := by
  simp [State.keepMessage]

@[simp] theorem State.keepMessage_supplies (m : TimeMessage) : (s.keepMessage m).supplies = s.supplies := by
  simp [State.keepMessage]

@[simp] theorem State.keepMessage_resetLow (m : TimeMessage) : (s.keepMessage m).resetLow = s.resetLow := by
  simp [State.keepMessage]

@[simp] theorem State.keepMessage_pending (m : TimeMessage) : (s.keepMessage m).pending = s.pending := by
  simp [State.keepMessage]

@[simp] theorem State.tellOverrun_timebase (sl : Slot) : (s.tellOverrun sl).timebase = s.timebase := by
  simp [State.tellOverrun]

@[simp] theorem State.tellOverrun_lanes (sl : Slot) : (s.tellOverrun sl).lanes = s.lanes := by
  simp [State.tellOverrun]

@[simp] theorem State.tellOverrun_arbiter (sl : Slot) : (s.tellOverrun sl).arbiter = s.arbiter := by
  simp [State.tellOverrun]

@[simp] theorem State.tellOverrun_table (sl : Slot) : (s.tellOverrun sl).table = s.table := by
  simp [State.tellOverrun]

@[simp] theorem State.tellOverrun_supervisor (sl : Slot) : (s.tellOverrun sl).supervisor = s.supervisor := by
  simp [State.tellOverrun]

@[simp] theorem State.tellOverrun_store (sl : Slot) : (s.tellOverrun sl).store = s.store := by
  simp [State.tellOverrun]

@[simp] theorem State.tellOverrun_relay (sl : Slot) : (s.tellOverrun sl).relay = s.relay := by
  simp [State.tellOverrun]

@[simp] theorem State.tellOverrun_supplies (sl : Slot) : (s.tellOverrun sl).supplies = s.supplies := by
  simp [State.tellOverrun]

@[simp] theorem State.tellOverrun_resetLow (sl : Slot) : (s.tellOverrun sl).resetLow = s.resetLow := by
  simp [State.tellOverrun]

@[simp] theorem State.tellOverrun_pending (sl : Slot) : (s.tellOverrun sl).pending = s.pending := by
  simp [State.tellOverrun]

@[simp] theorem State.dequeue_timebase (l : LaneId) (rest : List QueueItem) : (s.dequeue l rest).timebase = s.timebase := by
  simp [State.dequeue]

@[simp] theorem State.dequeue_lanes (l : LaneId) (rest : List QueueItem) : (s.dequeue l rest).lanes = update s.lanes l fun q => { q with queue := rest } := by
  simp [State.dequeue]

@[simp] theorem State.dequeue_arbiter (l : LaneId) (rest : List QueueItem) : (s.dequeue l rest).arbiter = { s.arbiter with position := l + 1 } := by
  simp [State.dequeue]

@[simp] theorem State.dequeue_table (l : LaneId) (rest : List QueueItem) : (s.dequeue l rest).table = s.table := by
  simp [State.dequeue]

@[simp] theorem State.dequeue_supervisor (l : LaneId) (rest : List QueueItem) : (s.dequeue l rest).supervisor = s.supervisor := by
  simp [State.dequeue]

@[simp] theorem State.dequeue_store (l : LaneId) (rest : List QueueItem) : (s.dequeue l rest).store = s.store := by
  simp [State.dequeue]

@[simp] theorem State.dequeue_relay (l : LaneId) (rest : List QueueItem) : (s.dequeue l rest).relay = s.relay := by
  simp [State.dequeue]

@[simp] theorem State.dequeue_ports (l : LaneId) (rest : List QueueItem) : (s.dequeue l rest).ports = s.ports := by
  simp [State.dequeue]

@[simp] theorem State.dequeue_supplies (l : LaneId) (rest : List QueueItem) : (s.dequeue l rest).supplies = s.supplies := by
  simp [State.dequeue]

@[simp] theorem State.dequeue_resetLow (l : LaneId) (rest : List QueueItem) : (s.dequeue l rest).resetLow = s.resetLow := by
  simp [State.dequeue]

@[simp] theorem State.dequeue_pending (l : LaneId) (rest : List QueueItem) : (s.dequeue l rest).pending = s.pending := by
  simp [State.dequeue]

@[simp] theorem State.tableClear_timebase : (s.tableClear).timebase = s.timebase := by
  simp [State.tableClear]

@[simp] theorem State.tableClear_lanes : (s.tableClear).lanes = s.lanes := by
  simp [State.tableClear]

@[simp] theorem State.tableClear_arbiter : (s.tableClear).arbiter = s.arbiter := by
  simp [State.tableClear]

@[simp] theorem State.tableClear_supervisor : (s.tableClear).supervisor = s.supervisor := by
  simp [State.tableClear]

@[simp] theorem State.tableClear_store : (s.tableClear).store = s.store := by
  simp [State.tableClear]

@[simp] theorem State.tableClear_relay : (s.tableClear).relay = s.relay := by
  simp [State.tableClear]

@[simp] theorem State.tableClear_ports : (s.tableClear).ports = s.ports := by
  simp [State.tableClear]

@[simp] theorem State.tableClear_supplies : (s.tableClear).supplies = s.supplies := by
  simp [State.tableClear]

@[simp] theorem State.tableClear_resetLow : (s.tableClear).resetLow = s.resetLow := by
  simp [State.tableClear]

@[simp] theorem State.tableClear_pending : (s.tableClear).pending = s.pending := by
  simp [State.tableClear]

@[simp] theorem State.supervisorClear_timebase : (s.supervisorClear).timebase = s.timebase := by
  simp [State.supervisorClear]

@[simp] theorem State.supervisorClear_lanes : (s.supervisorClear).lanes = s.lanes := by
  simp [State.supervisorClear]

@[simp] theorem State.supervisorClear_arbiter : (s.supervisorClear).arbiter = s.arbiter := by
  simp [State.supervisorClear]

@[simp] theorem State.supervisorClear_table : (s.supervisorClear).table = s.table := by
  simp [State.supervisorClear]

@[simp] theorem State.supervisorClear_store : (s.supervisorClear).store = s.store := by
  simp [State.supervisorClear]

@[simp] theorem State.supervisorClear_relay : (s.supervisorClear).relay = s.relay := by
  simp [State.supervisorClear]

@[simp] theorem State.supervisorClear_ports : (s.supervisorClear).ports = s.ports := by
  simp [State.supervisorClear]

@[simp] theorem State.supervisorClear_supplies : (s.supervisorClear).supplies = s.supplies := by
  simp [State.supervisorClear]

@[simp] theorem State.supervisorClear_resetLow : (s.supervisorClear).resetLow = s.resetLow := by
  simp [State.supervisorClear]

@[simp] theorem State.supervisorClear_pending : (s.supervisorClear).pending = s.pending := by
  simp [State.supervisorClear]

@[simp] theorem State.supervisorSecond_timebase (x : Nat) : (s.supervisorSecond x).timebase = s.timebase := by
  simp [State.supervisorSecond]

@[simp] theorem State.supervisorSecond_lanes (x : Nat) : (s.supervisorSecond x).lanes = s.lanes := by
  simp [State.supervisorSecond]

@[simp] theorem State.supervisorSecond_arbiter (x : Nat) : (s.supervisorSecond x).arbiter = s.arbiter := by
  simp [State.supervisorSecond]

@[simp] theorem State.supervisorSecond_table (x : Nat) : (s.supervisorSecond x).table = s.table := by
  simp [State.supervisorSecond]

@[simp] theorem State.supervisorSecond_store (x : Nat) : (s.supervisorSecond x).store = s.store := by
  simp [State.supervisorSecond]

@[simp] theorem State.supervisorSecond_relay (x : Nat) : (s.supervisorSecond x).relay = s.relay := by
  simp [State.supervisorSecond]

@[simp] theorem State.supervisorSecond_ports (x : Nat) : (s.supervisorSecond x).ports = s.ports := by
  simp [State.supervisorSecond]

@[simp] theorem State.supervisorSecond_supplies (x : Nat) : (s.supervisorSecond x).supplies = s.supplies := by
  simp [State.supervisorSecond]

@[simp] theorem State.supervisorSecond_resetLow (x : Nat) : (s.supervisorSecond x).resetLow = s.resetLow := by
  simp [State.supervisorSecond]

@[simp] theorem State.supervisorSecond_pending (x : Nat) : (s.supervisorSecond x).pending = s.pending := by
  simp [State.supervisorSecond]

@[simp] theorem State.supervisorActivation_timebase (old : Option Bank) (a : BankId) : (s.supervisorActivation old a).timebase = s.timebase := by
  simp [State.supervisorActivation]

@[simp] theorem State.supervisorActivation_lanes (old : Option Bank) (a : BankId) : (s.supervisorActivation old a).lanes = s.lanes := by
  simp [State.supervisorActivation]

@[simp] theorem State.supervisorActivation_arbiter (old : Option Bank) (a : BankId) : (s.supervisorActivation old a).arbiter = s.arbiter := by
  simp [State.supervisorActivation]

@[simp] theorem State.supervisorActivation_table (old : Option Bank) (a : BankId) : (s.supervisorActivation old a).table = s.table := by
  simp [State.supervisorActivation]

@[simp] theorem State.supervisorActivation_store (old : Option Bank) (a : BankId) : (s.supervisorActivation old a).store = s.store := by
  simp [State.supervisorActivation]

@[simp] theorem State.supervisorActivation_relay (old : Option Bank) (a : BankId) : (s.supervisorActivation old a).relay = s.relay := by
  simp [State.supervisorActivation]

@[simp] theorem State.supervisorActivation_ports (old : Option Bank) (a : BankId) : (s.supervisorActivation old a).ports = s.ports := by
  simp [State.supervisorActivation]

@[simp] theorem State.supervisorActivation_supplies (old : Option Bank) (a : BankId) : (s.supervisorActivation old a).supplies = s.supplies := by
  simp [State.supervisorActivation]

@[simp] theorem State.supervisorActivation_resetLow (old : Option Bank) (a : BankId) : (s.supervisorActivation old a).resetLow = s.resetLow := by
  simp [State.supervisorActivation]

@[simp] theorem State.supervisorActivation_pending (old : Option Bank) (a : BankId) : (s.supervisorActivation old a).pending = s.pending := by
  simp [State.supervisorActivation]

@[simp] theorem State.acceptance_timebase (i : StreamId) (L : Nat) (lane : LaneId) (arrival : Nat) : (s.acceptance i L lane arrival).timebase = s.timebase := by
  simp [State.acceptance]

@[simp] theorem State.acceptance_lanes (i : StreamId) (L : Nat) (lane : LaneId) (arrival : Nat) : (s.acceptance i L lane arrival).lanes = s.lanes := by
  simp [State.acceptance]

@[simp] theorem State.acceptance_arbiter (i : StreamId) (L : Nat) (lane : LaneId) (arrival : Nat) : (s.acceptance i L lane arrival).arbiter = s.arbiter := by
  simp [State.acceptance]

@[simp] theorem State.acceptance_table (i : StreamId) (L : Nat) (lane : LaneId) (arrival : Nat) : (s.acceptance i L lane arrival).table = s.table := by
  simp [State.acceptance]

@[simp] theorem State.acceptance_store (i : StreamId) (L : Nat) (lane : LaneId) (arrival : Nat) : (s.acceptance i L lane arrival).store = s.store := by
  simp [State.acceptance]

@[simp] theorem State.acceptance_relay (i : StreamId) (L : Nat) (lane : LaneId) (arrival : Nat) : (s.acceptance i L lane arrival).relay = s.relay := by
  simp [State.acceptance]

@[simp] theorem State.acceptance_ports (i : StreamId) (L : Nat) (lane : LaneId) (arrival : Nat) : (s.acceptance i L lane arrival).ports = s.ports := by
  simp [State.acceptance]

@[simp] theorem State.acceptance_supplies (i : StreamId) (L : Nat) (lane : LaneId) (arrival : Nat) : (s.acceptance i L lane arrival).supplies = s.supplies := by
  simp [State.acceptance]

@[simp] theorem State.acceptance_resetLow (i : StreamId) (L : Nat) (lane : LaneId) (arrival : Nat) : (s.acceptance i L lane arrival).resetLow = s.resetLow := by
  simp [State.acceptance]

@[simp] theorem State.acceptance_pending (i : StreamId) (L : Nat) (lane : LaneId) (arrival : Nat) : (s.acceptance i L lane arrival).pending = s.pending := by
  simp [State.acceptance]

@[simp] theorem State.activate_timebase (x : Option Nat) (d : Option Draining) : (s.activate x d).timebase = s.timebase := by
  simp [State.activate]

@[simp] theorem State.activate_lanes (x : Option Nat) (d : Option Draining) : (s.activate x d).lanes = s.lanes := by
  simp [State.activate]

@[simp] theorem State.activate_arbiter (x : Option Nat) (d : Option Draining) : (s.activate x d).arbiter = s.arbiter := by
  simp [State.activate]

@[simp] theorem State.activate_table (x : Option Nat) (d : Option Draining) : (s.activate x d).table = s.table := by
  simp [State.activate]

@[simp] theorem State.activate_relay (x : Option Nat) (d : Option Draining) : (s.activate x d).relay = s.relay := by
  simp [State.activate]

@[simp] theorem State.activate_supplies (x : Option Nat) (d : Option Draining) : (s.activate x d).supplies = s.supplies := by
  simp [State.activate]

@[simp] theorem State.activate_resetLow (x : Option Nat) (d : Option Draining) : (s.activate x d).resetLow = s.resetLow := by
  simp [State.activate]

@[simp] theorem State.activate_pending (x : Option Nat) (d : Option Draining) : (s.activate x d).pending = s.pending := by
  simp [State.activate]

@[simp] theorem State.answer_timebase (p : PortId) (tag : Byte) (owner : State → State × Reply) : (s.answer p tag owner).timebase = (owner s).1.timebase := by
  simp [State.answer]

@[simp] theorem State.answer_lanes (p : PortId) (tag : Byte) (owner : State → State × Reply) : (s.answer p tag owner).lanes = (owner s).1.lanes := by
  simp [State.answer]

@[simp] theorem State.answer_arbiter (p : PortId) (tag : Byte) (owner : State → State × Reply) : (s.answer p tag owner).arbiter = (owner s).1.arbiter := by
  simp [State.answer]

@[simp] theorem State.answer_table (p : PortId) (tag : Byte) (owner : State → State × Reply) : (s.answer p tag owner).table = (owner s).1.table := by
  simp [State.answer]

@[simp] theorem State.answer_supervisor (p : PortId) (tag : Byte) (owner : State → State × Reply) : (s.answer p tag owner).supervisor = (owner s).1.supervisor := by
  simp [State.answer]

@[simp] theorem State.answer_store (p : PortId) (tag : Byte) (owner : State → State × Reply) : (s.answer p tag owner).store = (owner s).1.store := by
  simp [State.answer]

@[simp] theorem State.answer_relay (p : PortId) (tag : Byte) (owner : State → State × Reply) : (s.answer p tag owner).relay = (owner s).1.relay := by
  simp [State.answer]

@[simp] theorem State.answer_ports (p : PortId) (tag : Byte) (owner : State → State × Reply) : (s.answer p tag owner).ports = update (owner s).1.ports p (Port.respond tag (owner s).2) := by
  simp [State.answer]

@[simp] theorem State.answer_supplies (p : PortId) (tag : Byte) (owner : State → State × Reply) : (s.answer p tag owner).supplies = (owner s).1.supplies := by
  simp [State.answer]

@[simp] theorem State.answer_resetLow (p : PortId) (tag : Byte) (owner : State → State × Reply) : (s.answer p tag owner).resetLow = (owner s).1.resetLow := by
  simp [State.answer]

@[simp] theorem State.answer_pending (p : PortId) (tag : Byte) (owner : State → State × Reply) : (s.answer p tag owner).pending = (owner s).1.pending := by
  simp [State.answer]

@[simp] theorem State.issueCommand_timebase (p : PortId) (i : StreamId) (a : Action) (l : LaneId) (station : Nat) : (s.issueCommand p i a l station).timebase = s.timebase := by
  simp [State.issueCommand]

@[simp] theorem State.issueCommand_lanes (p : PortId) (i : StreamId) (a : Action) (l : LaneId) (station : Nat) : (s.issueCommand p i a l station).lanes = update s.lanes l (Lane.hand { station := station, tag := s.relay.tags[i], action := a }) := by
  simp [State.issueCommand]

@[simp] theorem State.issueCommand_arbiter (p : PortId) (i : StreamId) (a : Action) (l : LaneId) (station : Nat) : (s.issueCommand p i a l station).arbiter = s.arbiter := by
  simp [State.issueCommand]

@[simp] theorem State.issueCommand_table (p : PortId) (i : StreamId) (a : Action) (l : LaneId) (station : Nat) : (s.issueCommand p i a l station).table = s.table := by
  simp [State.issueCommand]

@[simp] theorem State.issueCommand_supervisor (p : PortId) (i : StreamId) (a : Action) (l : LaneId) (station : Nat) : (s.issueCommand p i a l station).supervisor = s.supervisor := by
  simp [State.issueCommand]

@[simp] theorem State.issueCommand_store (p : PortId) (i : StreamId) (a : Action) (l : LaneId) (station : Nat) : (s.issueCommand p i a l station).store = s.store := by
  simp [State.issueCommand]

@[simp] theorem State.issueCommand_ports (p : PortId) (i : StreamId) (a : Action) (l : LaneId) (station : Nat) : (s.issueCommand p i a l station).ports = s.ports := by
  simp [State.issueCommand]

@[simp] theorem State.issueCommand_supplies (p : PortId) (i : StreamId) (a : Action) (l : LaneId) (station : Nat) : (s.issueCommand p i a l station).supplies = s.supplies := by
  simp [State.issueCommand]

@[simp] theorem State.issueCommand_resetLow (p : PortId) (i : StreamId) (a : Action) (l : LaneId) (station : Nat) : (s.issueCommand p i a l station).resetLow = s.resetLow := by
  simp [State.issueCommand]

@[simp] theorem State.issueCommand_pending (p : PortId) (i : StreamId) (a : Action) (l : LaneId) (station : Nat) : (s.issueCommand p i a l station).pending = s.pending := by
  simp [State.issueCommand]

@[simp] theorem State.enterTimeState_lanes (st : TimeState) : (s.enterTimeState st).lanes = s.lanes := by
  unfold State.enterTimeState; dsimp only; split <;> rfl

@[simp] theorem State.enterTimeState_arbiter (st : TimeState) : (s.enterTimeState st).arbiter = s.arbiter := by
  unfold State.enterTimeState; dsimp only; split <;> rfl

@[simp] theorem State.enterTimeState_table (st : TimeState) : (s.enterTimeState st).table = s.table := by
  unfold State.enterTimeState; dsimp only; split <;> rfl

@[simp] theorem State.enterTimeState_supervisor (st : TimeState) : (s.enterTimeState st).supervisor = s.supervisor := by
  unfold State.enterTimeState; dsimp only; split <;> rfl

@[simp] theorem State.enterTimeState_store (st : TimeState) : (s.enterTimeState st).store = s.store := by
  unfold State.enterTimeState; dsimp only; split <;> rfl

@[simp] theorem State.enterTimeState_relay (st : TimeState) : (s.enterTimeState st).relay = s.relay := by
  unfold State.enterTimeState; dsimp only; split <;> rfl

@[simp] theorem State.enterTimeState_supplies (st : TimeState) : (s.enterTimeState st).supplies = s.supplies := by
  unfold State.enterTimeState; dsimp only; split <;> rfl

@[simp] theorem State.enterTimeState_resetLow (st : TimeState) : (s.enterTimeState st).resetLow = s.resetLow := by
  unfold State.enterTimeState; dsimp only; split <;> rfl

@[simp] theorem State.enterTimeState_pending (st : TimeState) : (s.enterTimeState st).pending = s.pending := by
  unfold State.enterTimeState; dsimp only; split <;> rfl

@[simp] theorem State.renewClaim_timebase (p : PortId) : (s.renewClaim p).timebase = s.timebase := by
  unfold State.renewClaim; split <;> rfl

@[simp] theorem State.renewClaim_lanes (p : PortId) : (s.renewClaim p).lanes = s.lanes := by
  unfold State.renewClaim; split <;> rfl

@[simp] theorem State.renewClaim_arbiter (p : PortId) : (s.renewClaim p).arbiter = s.arbiter := by
  unfold State.renewClaim; split <;> rfl

@[simp] theorem State.renewClaim_table (p : PortId) : (s.renewClaim p).table = s.table := by
  unfold State.renewClaim; split <;> rfl

@[simp] theorem State.renewClaim_supervisor (p : PortId) : (s.renewClaim p).supervisor = s.supervisor := by
  unfold State.renewClaim; split <;> rfl

@[simp] theorem State.renewClaim_relay (p : PortId) : (s.renewClaim p).relay = s.relay := by
  unfold State.renewClaim; split <;> rfl

@[simp] theorem State.renewClaim_ports (p : PortId) : (s.renewClaim p).ports = s.ports := by
  unfold State.renewClaim; split <;> rfl

@[simp] theorem State.renewClaim_supplies (p : PortId) : (s.renewClaim p).supplies = s.supplies := by
  unfold State.renewClaim; split <;> rfl

@[simp] theorem State.renewClaim_resetLow (p : PortId) : (s.renewClaim p).resetLow = s.resetLow := by
  unfold State.renewClaim; split <;> rfl

@[simp] theorem State.renewClaim_pending (p : PortId) : (s.renewClaim p).pending = s.pending := by
  unfold State.renewClaim; split <;> rfl

@[simp] theorem State.enterAligningNow_timebase : (s.enterAligningNow).timebase = s.timebase := by
  unfold State.enterAligningNow; split <;> rfl

@[simp] theorem State.enterAligningNow_lanes : (s.enterAligningNow).lanes = s.lanes := by
  unfold State.enterAligningNow; split <;> rfl

@[simp] theorem State.enterAligningNow_arbiter : (s.enterAligningNow).arbiter = s.arbiter := by
  unfold State.enterAligningNow; split <;> rfl

@[simp] theorem State.enterAligningNow_supervisor : (s.enterAligningNow).supervisor = s.supervisor := by
  unfold State.enterAligningNow; split <;> rfl

@[simp] theorem State.enterAligningNow_store : (s.enterAligningNow).store = s.store := by
  unfold State.enterAligningNow; split <;> rfl

@[simp] theorem State.enterAligningNow_relay : (s.enterAligningNow).relay = s.relay := by
  unfold State.enterAligningNow; split <;> rfl

@[simp] theorem State.enterAligningNow_ports : (s.enterAligningNow).ports = s.ports := by
  unfold State.enterAligningNow; split <;> rfl

@[simp] theorem State.enterAligningNow_supplies : (s.enterAligningNow).supplies = s.supplies := by
  unfold State.enterAligningNow; split <;> rfl

@[simp] theorem State.enterAligningNow_resetLow : (s.enterAligningNow).resetLow = s.resetLow := by
  unfold State.enterAligningNow; split <;> rfl

@[simp] theorem State.enterAligningNow_pending : (s.enterAligningNow).pending = s.pending := by
  unfold State.enterAligningNow; split <;> rfl

/-- Entering a state changes the state of the timebase alone. -/
@[simp] theorem State.enterTimeState_timebase (st : TimeState) :
    (s.enterTimeState st).timebase = { s.timebase with state := st } := by
  unfold State.enterTimeState
  dsimp only
  split <;> rfl

end Sys2Proof.Machine
end

