-- ==== Sys2Proof/Laws/Conditions.lean ====
section
/-! SUPPORT. What raising a condition does to a port and to the part, said once (R175). -/

namespace Sys2Proof.Machine

theorem Kind.code_lt (k : Kind) : k.code < 15 := by cases k <;> decide

theorem Kind.code_inj {j k : Kind} (h : j.code = k.code) : j = k := by
  cases j <;> cases k <;> first | rfl | (revert h; decide)

theorem kindBit_getLsbD (c i : Nat) : (kindBit c).getLsbD i = (decide (i = c) && decide (c < 15)) := by
  unfold kindBit
  split
  next h =>
    by_cases e : i = c
    · subst e
      simp [h]
    · simp [h, e]
      intro _ _
      omega
  next h => simp [h]

@[simp] theorem kindIn_addKind (k j : Kind) (s : KindSet) : kindIn k (addKind j s) = (kindIn k s || decide (k = j)) := by
  have h : decide (k.code = j.code) = decide (k = j) := decide_eq_decide.mpr ⟨Kind.code_inj, congrArg _⟩
  rw [kindIn, addKind, BitVec.getLsbD_or, kindBit_getLsbD, h, decide_eq_true (Kind.code_lt j), Bool.and_true, kindIn]

@[simp] theorem kindIn_zero (k : Kind) : kindIn k 0#15 = false := BitVec.getLsbD_zero

@[simp] theorem kindIn_or (k : Kind) (a b : KindSet) : kindIn k (a ||| b) = (kindIn k a || kindIn k b) :=
  BitVec.getLsbD_or

@[simp] theorem kindIn_and (k : Kind) (a b : KindSet) : kindIn k (a &&& b) = (kindIn k a && kindIn k b) :=
  BitVec.getLsbD_and

theorem kindIn_kindIf (k j : Kind) (b : Bool) : kindIn k (kindIf b j) = (b && decide (k = j)) := by
  cases b
  · simp [kindIf]
  · have := kindIn_addKind k j 0#15
    simpa [addKind, kindIf] using this

/-- Every code below 15 is a kind's. -/
theorem exists_kind {i : Nat} (h : i < 15) : ∃ k : Kind, k.code = i := by
  have all : ∀ j : Fin 15, ∃ k ∈ [Kind.streamFault, .streamQuarantined, .conflict, .unknownSource, .laneEvent, .linkError,
      .referenceChange, .discontinuity, .cursorOverrun, .profileSwitched, .claimLost, .commandDone, .tableCleared,
      .snapshotWaiting, .rosterChanged], k.code = j.val := by decide
  obtain ⟨k, -, hk⟩ := all ⟨i, h⟩
  exact ⟨k, hk⟩

/-- A set of kinds is not empty when it holds a kind. -/
theorem ne_zero_iff (s : KindSet) : (s != 0) = true ↔ ∃ k : Kind, kindIn k s = true := by
  constructor
  · intro h
    by_contra no
    have e : s = 0#15 := by
      apply BitVec.eq_of_getLsbD_eq
      intro i hi
      obtain ⟨k, rfl⟩ := exists_kind hi
      cases hk : s.getLsbD k.code
      · simp
      · exact absurd ⟨k, hk⟩ no
    simp [e] at h
  · rintro ⟨k, hk⟩
    by_contra h
    have e : s = 0#15 := by simpa using h
    rw [e, kindIn_zero] at hk
    cases hk

/-! ### Raised -/

theorem Raised.refl (q : Port) : Raised [] q q := ⟨rfl, by simp⟩

theorem Raised.latch (k : Kind) (q : Port) : Raised [k] q (q.latch k) := ⟨rfl, by simp [Port.latch]⟩

theorem Raised.trans {a b : List Kind} {q q' q'' : Port} (h : Raised a q q') (h' : Raised b q' q'') :
    Raised (a ++ b) q q'' := by
  refine ⟨?_, fun k => ?_⟩
  · rw [h'.1, h.1]
  · rw [h'.2, h.2]
    simp [Bool.or_assoc]

/-- Only which kinds are named matters. -/
theorem Raised.of_same {a b : List Kind} {q q' : Port} (h : Raised a q q') (e : ∀ k, a.contains k = b.contains k) :
    Raised b q q' := ⟨h.1, fun k => by rw [h.2, e]⟩

theorem RaisedInAll.of_ports_eq {s t : State} (h : t.ports = s.ports) : RaisedInAll [] s t := by
  intro p
  rw [h]
  exact Raised.refl _

theorem RaisedInAll.trans {a b : List Kind} {s t u : State} (h : RaisedInAll a s t) (h' : RaisedInAll b t u) :
    RaisedInAll (a ++ b) s u := fun p => (h p).trans (h' p)

/-- A kind raised into all three ports. -/
theorem State.latchAll_raises (s : State) (k : Kind) : RaisedInAll [k] s (s.latchAll k) := by
  intro p
  simpa using Raised.latch k s.ports[p]

/-- A kind raised into one port. -/
theorem State.latchIn_raises (s : State) (p : PortId) (k : Kind) :
    Raised [k] s.ports[p] (s.latchIn p k).ports[p] ∧ OtherPortsSame p s (s.latchIn p k) := by
  refine ⟨by simpa using Raised.latch k s.ports[p], fun q hq => ?_⟩
  simp [update_get_ne _ _ hq]

/-- Entering a timebase state raises REFERENCE_CHANGE for a change (R21). -/
theorem State.enterTimeState_raises (s : State) (st : TimeState) :
    RaisedInAll (changeKinds s.timebase.state st) s (s.enterTimeState st) := by
  intro p
  unfold State.enterTimeState changeKinds
  split
  · simpa using Raised.refl _
  · simpa using Raised.latch .referenceChange s.ports[p]

/-- DISCONTINUITY raised, with the mark (R21). -/
theorem State.raiseDiscontinuity_raises (s : State) : RaisedInAll [.discontinuity] s s.raiseDiscontinuity := by
  intro p
  simpa [State.raiseDiscontinuity] using Raised.latch .discontinuity s.ports[p]

end Sys2Proof.Machine
end

