-- ==== Sys2Proof/Laws/Frames.lean ====
section
/-! SUPPORT. Which blocks each shared operation leaves as they are, field by field. -/

namespace Sys2Proof.Machine

/-- What every step of a run over a list keeps, the run keeps. -/
theorem foldl_keeps {β γ : Type} (proj : State → β) (f : State → γ → State) (h : ∀ s x, proj (f s x) = proj s)
    (l : List γ) (s : State) : proj (l.foldl f s) = proj s := by
  induction l generalizing s with
  | nil => rfl
  | cons x l ih => rw [List.foldl_cons, ih, h]

variable (s : State)

/-! ### The table and the supervisor's presence reports -/

@[simp] theorem State.presenceReport_timebase (items : List (StreamId × Bool)) : (s.presenceReport items).timebase = s.timebase := by
  unfold State.presenceReport
  exact foldl_keeps State.timebase _ (fun _ _ => by simp) _ _

@[simp] theorem State.presenceReport_lanes (items : List (StreamId × Bool)) : (s.presenceReport items).lanes = s.lanes := by
  unfold State.presenceReport
  exact foldl_keeps State.lanes _ (fun _ _ => by simp) _ _

@[simp] theorem State.presenceReport_arbiter (items : List (StreamId × Bool)) : (s.presenceReport items).arbiter = s.arbiter := by
  unfold State.presenceReport
  exact foldl_keeps State.arbiter _ (fun _ _ => by simp) _ _

@[simp] theorem State.presenceReport_table (items : List (StreamId × Bool)) : (s.presenceReport items).table = s.table := by
  unfold State.presenceReport
  exact foldl_keeps State.table _ (fun _ _ => by simp) _ _

@[simp] theorem State.presenceReport_store (items : List (StreamId × Bool)) : (s.presenceReport items).store = s.store := by
  unfold State.presenceReport
  exact foldl_keeps State.store _ (fun _ _ => by simp) _ _

@[simp] theorem State.presenceReport_relay (items : List (StreamId × Bool)) : (s.presenceReport items).relay = s.relay := by
  unfold State.presenceReport
  exact foldl_keeps State.relay _ (fun _ _ => by simp) _ _

@[simp] theorem State.presenceReport_ports (items : List (StreamId × Bool)) : (s.presenceReport items).ports = s.ports := by
  unfold State.presenceReport
  exact foldl_keeps State.ports _ (fun _ _ => by simp) _ _

@[simp] theorem State.presenceReport_supplies (items : List (StreamId × Bool)) : (s.presenceReport items).supplies = s.supplies := by
  unfold State.presenceReport
  exact foldl_keeps State.supplies _ (fun _ _ => by simp) _ _

@[simp] theorem State.presenceReport_resetLow (items : List (StreamId × Bool)) : (s.presenceReport items).resetLow = s.resetLow := by
  unfold State.presenceReport
  exact foldl_keeps State.resetLow _ (fun _ _ => by simp) _ _

@[simp] theorem State.presenceReport_pending (items : List (StreamId × Bool)) : (s.presenceReport items).pending = s.pending := by
  unfold State.presenceReport
  exact foldl_keeps State.pending _ (fun _ _ => by simp) _ _

@[simp] theorem State.releasePass_timebase : (s.releasePass).timebase = s.timebase := by
  unfold State.releasePass
  rw [foldl_keeps State.timebase _ (fun _ _ => by simp)]

@[simp] theorem State.releasePass_lanes : (s.releasePass).lanes = s.lanes := by
  unfold State.releasePass
  rw [foldl_keeps State.lanes _ (fun _ _ => by simp)]

@[simp] theorem State.releasePass_arbiter : (s.releasePass).arbiter = s.arbiter := by
  unfold State.releasePass
  rw [foldl_keeps State.arbiter _ (fun _ _ => by simp)]

@[simp] theorem State.releasePass_store : (s.releasePass).store = s.store := by
  unfold State.releasePass
  rw [foldl_keeps State.store _ (fun _ _ => by simp)]

@[simp] theorem State.releasePass_relay : (s.releasePass).relay = s.relay := by
  unfold State.releasePass
  rw [foldl_keeps State.relay _ (fun _ _ => by simp)]

@[simp] theorem State.releasePass_ports : (s.releasePass).ports = s.ports := by
  unfold State.releasePass
  rw [foldl_keeps State.ports _ (fun _ _ => by simp)]

@[simp] theorem State.releasePass_supplies : (s.releasePass).supplies = s.supplies := by
  unfold State.releasePass
  rw [foldl_keeps State.supplies _ (fun _ _ => by simp)]

@[simp] theorem State.releasePass_resetLow : (s.releasePass).resetLow = s.resetLow := by
  unfold State.releasePass
  rw [foldl_keeps State.resetLow _ (fun _ _ => by simp)]

@[simp] theorem State.releasePass_pending : (s.releasePass).pending = s.pending := by
  unfold State.releasePass
  rw [foldl_keeps State.pending _ (fun _ _ => by simp)]

/-- The release pass leaves the table as its two parts do. -/
@[simp] theorem State.releasePass_table : s.releasePass.table = s.table.release := by
  unfold State.releasePass
  rw [foldl_keeps State.table _ (fun _ _ => by simp)]

@[simp] theorem State.fastDeadline_timebase (e : EpochKey) : (s.fastDeadline e).timebase = s.timebase := by
  unfold State.fastDeadline
  split <;> (try split) <;> simp

@[simp] theorem State.fastDeadline_lanes (e : EpochKey) : (s.fastDeadline e).lanes = s.lanes := by
  unfold State.fastDeadline
  split <;> (try split) <;> simp

@[simp] theorem State.fastDeadline_arbiter (e : EpochKey) : (s.fastDeadline e).arbiter = s.arbiter := by
  unfold State.fastDeadline
  split <;> (try split) <;> simp

@[simp] theorem State.fastDeadline_store (e : EpochKey) : (s.fastDeadline e).store = s.store := by
  unfold State.fastDeadline
  split <;> (try split) <;> simp

@[simp] theorem State.fastDeadline_relay (e : EpochKey) : (s.fastDeadline e).relay = s.relay := by
  unfold State.fastDeadline
  split <;> (try split) <;> simp

@[simp] theorem State.fastDeadline_ports (e : EpochKey) : (s.fastDeadline e).ports = s.ports := by
  unfold State.fastDeadline
  split <;> (try split) <;> simp

@[simp] theorem State.fastDeadline_supplies (e : EpochKey) : (s.fastDeadline e).supplies = s.supplies := by
  unfold State.fastDeadline
  split <;> (try split) <;> simp

@[simp] theorem State.fastDeadline_resetLow (e : EpochKey) : (s.fastDeadline e).resetLow = s.resetLow := by
  unfold State.fastDeadline
  split <;> (try split) <;> simp

@[simp] theorem State.fastDeadline_pending (e : EpochKey) : (s.fastDeadline e).pending = s.pending := by
  unfold State.fastDeadline
  split <;> (try split) <;> simp

@[simp] theorem State.fullDeadline_timebase (e : EpochKey) : (s.fullDeadline e).timebase = s.timebase := by
  unfold State.fullDeadline
  split <;> (try split) <;> simp

@[simp] theorem State.fullDeadline_lanes (e : EpochKey) : (s.fullDeadline e).lanes = s.lanes := by
  unfold State.fullDeadline
  split <;> (try split) <;> simp

@[simp] theorem State.fullDeadline_arbiter (e : EpochKey) : (s.fullDeadline e).arbiter = s.arbiter := by
  unfold State.fullDeadline
  split <;> (try split) <;> simp

@[simp] theorem State.fullDeadline_store (e : EpochKey) : (s.fullDeadline e).store = s.store := by
  unfold State.fullDeadline
  split <;> (try split) <;> simp

@[simp] theorem State.fullDeadline_relay (e : EpochKey) : (s.fullDeadline e).relay = s.relay := by
  unfold State.fullDeadline
  split <;> (try split) <;> simp

@[simp] theorem State.fullDeadline_ports (e : EpochKey) : (s.fullDeadline e).ports = s.ports := by
  unfold State.fullDeadline
  split <;> (try split) <;> simp

@[simp] theorem State.fullDeadline_supplies (e : EpochKey) : (s.fullDeadline e).supplies = s.supplies := by
  unfold State.fullDeadline
  split <;> (try split) <;> simp

@[simp] theorem State.fullDeadline_resetLow (e : EpochKey) : (s.fullDeadline e).resetLow = s.resetLow := by
  unfold State.fullDeadline
  split <;> (try split) <;> simp

@[simp] theorem State.fullDeadline_pending (e : EpochKey) : (s.fullDeadline e).pending = s.pending := by
  unfold State.fullDeadline
  split <;> (try split) <;> simp

@[simp] theorem State.expireDeadlines_timebase (es : List EpochKey) : (s.expireDeadlines es).timebase = s.timebase := by
  unfold State.expireDeadlines
  exact foldl_keeps State.timebase _ (fun _ _ => by simp) _ _

@[simp] theorem State.expireDeadlines_lanes (es : List EpochKey) : (s.expireDeadlines es).lanes = s.lanes := by
  unfold State.expireDeadlines
  exact foldl_keeps State.lanes _ (fun _ _ => by simp) _ _

@[simp] theorem State.expireDeadlines_arbiter (es : List EpochKey) : (s.expireDeadlines es).arbiter = s.arbiter := by
  unfold State.expireDeadlines
  exact foldl_keeps State.arbiter _ (fun _ _ => by simp) _ _

@[simp] theorem State.expireDeadlines_store (es : List EpochKey) : (s.expireDeadlines es).store = s.store := by
  unfold State.expireDeadlines
  exact foldl_keeps State.store _ (fun _ _ => by simp) _ _

@[simp] theorem State.expireDeadlines_relay (es : List EpochKey) : (s.expireDeadlines es).relay = s.relay := by
  unfold State.expireDeadlines
  exact foldl_keeps State.relay _ (fun _ _ => by simp) _ _

@[simp] theorem State.expireDeadlines_ports (es : List EpochKey) : (s.expireDeadlines es).ports = s.ports := by
  unfold State.expireDeadlines
  exact foldl_keeps State.ports _ (fun _ _ => by simp) _ _

@[simp] theorem State.expireDeadlines_supplies (es : List EpochKey) : (s.expireDeadlines es).supplies = s.supplies := by
  unfold State.expireDeadlines
  exact foldl_keeps State.supplies _ (fun _ _ => by simp) _ _

@[simp] theorem State.expireDeadlines_resetLow (es : List EpochKey) : (s.expireDeadlines es).resetLow = s.resetLow := by
  unfold State.expireDeadlines
  exact foldl_keeps State.resetLow _ (fun _ _ => by simp) _ _

@[simp] theorem State.expireDeadlines_pending (es : List EpochKey) : (s.expireDeadlines es).pending = s.pending := by
  unfold State.expireDeadlines
  exact foldl_keeps State.pending _ (fun _ _ => by simp) _ _

@[simp] theorem State.expireAll_timebase : (s.expireAll).timebase = s.timebase := by
  simp [State.expireAll]

@[simp] theorem State.expireAll_lanes : (s.expireAll).lanes = s.lanes := by
  simp [State.expireAll]

@[simp] theorem State.expireAll_arbiter : (s.expireAll).arbiter = s.arbiter := by
  simp [State.expireAll]

@[simp] theorem State.expireAll_store : (s.expireAll).store = s.store := by
  simp [State.expireAll]

@[simp] theorem State.expireAll_relay : (s.expireAll).relay = s.relay := by
  simp [State.expireAll]

@[simp] theorem State.expireAll_ports : (s.expireAll).ports = s.ports := by
  simp [State.expireAll]

@[simp] theorem State.expireAll_supplies : (s.expireAll).supplies = s.supplies := by
  simp [State.expireAll]

@[simp] theorem State.expireAll_resetLow : (s.expireAll).resetLow = s.resetLow := by
  simp [State.expireAll]

@[simp] theorem State.expireAll_pending : (s.expireAll).pending = s.pending := by
  simp [State.expireAll]

/-- What `claimSlot` gives differs from the state it starts from in the table and the ports alone. -/
theorem State.claimSlot_frame {c : Fin 512 × State} (h : s.claimSlot = some c) :
    c.2 = { s with table := c.2.table, ports := c.2.ports } := by
  unfold State.claimSlot at h
  split at h
  · cases h
    rfl
  · split at h
    · cases h
      simp [State.tellOverrun, State.updPorts]
    · cases h

theorem State.openSlot_frame (e : EpochKey) :
    (s.openSlot e).1 = { s with table := (s.openSlot e).1.table, ports := (s.openSlot e).1.ports } := by
  unfold State.openSlot
  split
  · rename_i g c hg hc
    rw [s.claimSlot_frame hc]
  · rfl

@[simp] theorem State.openSlot_timebase (e : EpochKey) : ((s.openSlot e).1).timebase = s.timebase := by
  rw [s.openSlot_frame e]

@[simp] theorem State.openSlot_lanes (e : EpochKey) : ((s.openSlot e).1).lanes = s.lanes := by
  rw [s.openSlot_frame e]

@[simp] theorem State.openSlot_arbiter (e : EpochKey) : ((s.openSlot e).1).arbiter = s.arbiter := by
  rw [s.openSlot_frame e]

@[simp] theorem State.openSlot_supervisor (e : EpochKey) : ((s.openSlot e).1).supervisor = s.supervisor := by
  rw [s.openSlot_frame e]

@[simp] theorem State.openSlot_store (e : EpochKey) : ((s.openSlot e).1).store = s.store := by
  rw [s.openSlot_frame e]

@[simp] theorem State.openSlot_relay (e : EpochKey) : ((s.openSlot e).1).relay = s.relay := by
  rw [s.openSlot_frame e]

@[simp] theorem State.openSlot_supplies (e : EpochKey) : ((s.openSlot e).1).supplies = s.supplies := by
  rw [s.openSlot_frame e]

@[simp] theorem State.openSlot_resetLow (e : EpochKey) : ((s.openSlot e).1).resetLow = s.resetLow := by
  rw [s.openSlot_frame e]

@[simp] theorem State.openSlot_pending (e : EpochKey) : ((s.openSlot e).1).pending = s.pending := by
  rw [s.openSlot_frame e]

@[simp] theorem State.epochBoundary_timebase : (s.epochBoundary).timebase = s.timebase := by
  unfold State.epochBoundary
  split <;> (try split) <;> simp

@[simp] theorem State.epochBoundary_lanes : (s.epochBoundary).lanes = s.lanes := by
  unfold State.epochBoundary
  split <;> (try split) <;> simp

@[simp] theorem State.epochBoundary_arbiter : (s.epochBoundary).arbiter = s.arbiter := by
  unfold State.epochBoundary
  split <;> (try split) <;> simp

@[simp] theorem State.epochBoundary_store : (s.epochBoundary).store = s.store := by
  unfold State.epochBoundary
  split <;> (try split) <;> simp

@[simp] theorem State.epochBoundary_relay : (s.epochBoundary).relay = s.relay := by
  unfold State.epochBoundary
  split <;> (try split) <;> simp

@[simp] theorem State.epochBoundary_supplies : (s.epochBoundary).supplies = s.supplies := by
  unfold State.epochBoundary
  split <;> (try split) <;> simp

@[simp] theorem State.epochBoundary_resetLow : (s.epochBoundary).resetLow = s.resetLow := by
  unfold State.epochBoundary
  split <;> (try split) <;> simp

@[simp] theorem State.epochBoundary_pending : (s.epochBoundary).pending = s.pending := by
  unfold State.epochBoundary
  split <;> (try split) <;> simp

@[simp] theorem State.storeRecord_timebase (r : PlacedRecord) : (s.storeRecord r).timebase = s.timebase := by
  simp [State.storeRecord]

@[simp] theorem State.storeRecord_lanes (r : PlacedRecord) : (s.storeRecord r).lanes = s.lanes := by
  simp [State.storeRecord]

@[simp] theorem State.storeRecord_arbiter (r : PlacedRecord) : (s.storeRecord r).arbiter = s.arbiter := by
  simp [State.storeRecord]

@[simp] theorem State.storeRecord_store (r : PlacedRecord) : (s.storeRecord r).store = s.store := by
  simp [State.storeRecord]

@[simp] theorem State.storeRecord_relay (r : PlacedRecord) : (s.storeRecord r).relay = s.relay := by
  simp [State.storeRecord]

@[simp] theorem State.storeRecord_ports (r : PlacedRecord) : (s.storeRecord r).ports = s.ports := by
  simp [State.storeRecord]

@[simp] theorem State.storeRecord_supplies (r : PlacedRecord) : (s.storeRecord r).supplies = s.supplies := by
  simp [State.storeRecord]

@[simp] theorem State.storeRecord_resetLow (r : PlacedRecord) : (s.storeRecord r).resetLow = s.resetLow := by
  simp [State.storeRecord]

@[simp] theorem State.storeRecord_pending (r : PlacedRecord) : (s.storeRecord r).pending = s.pending := by
  simp [State.storeRecord]

@[simp] theorem State.faultReport_timebase (i : StreamId) (k : FaultKind) : (s.faultReport i k).timebase = s.timebase := by
  unfold State.faultReport
  dsimp only
  split <;> split <;> simp

@[simp] theorem State.faultReport_lanes (i : StreamId) (k : FaultKind) : (s.faultReport i k).lanes = s.lanes := by
  unfold State.faultReport
  dsimp only
  split <;> split <;> simp

@[simp] theorem State.faultReport_arbiter (i : StreamId) (k : FaultKind) : (s.faultReport i k).arbiter = s.arbiter := by
  unfold State.faultReport
  dsimp only
  split <;> split <;> simp

@[simp] theorem State.faultReport_table (i : StreamId) (k : FaultKind) : (s.faultReport i k).table = s.table := by
  unfold State.faultReport
  dsimp only
  split <;> split <;> simp

@[simp] theorem State.faultReport_store (i : StreamId) (k : FaultKind) : (s.faultReport i k).store = s.store := by
  unfold State.faultReport
  dsimp only
  split <;> split <;> simp

@[simp] theorem State.faultReport_relay (i : StreamId) (k : FaultKind) : (s.faultReport i k).relay = s.relay := by
  unfold State.faultReport
  dsimp only
  split <;> split <;> simp

@[simp] theorem State.faultReport_supplies (i : StreamId) (k : FaultKind) : (s.faultReport i k).supplies = s.supplies := by
  unfold State.faultReport
  dsimp only
  split <;> split <;> simp

@[simp] theorem State.faultReport_resetLow (i : StreamId) (k : FaultKind) : (s.faultReport i k).resetLow = s.resetLow := by
  unfold State.faultReport
  dsimp only
  split <;> split <;> simp

@[simp] theorem State.faultReport_pending (i : StreamId) (k : FaultKind) : (s.faultReport i k).pending = s.pending := by
  unfold State.faultReport
  dsimp only
  split <;> split <;> simp

@[simp] theorem State.takeNew_timebase (r : PlacedRecord) : ((s.takeNew r).1).timebase = s.timebase := by
  unfold State.takeNew
  dsimp only
  repeat' split
  all_goals simp

@[simp] theorem State.takeNew_lanes (r : PlacedRecord) : ((s.takeNew r).1).lanes = s.lanes := by
  unfold State.takeNew
  dsimp only
  repeat' split
  all_goals simp

@[simp] theorem State.takeNew_arbiter (r : PlacedRecord) : ((s.takeNew r).1).arbiter = s.arbiter := by
  unfold State.takeNew
  dsimp only
  repeat' split
  all_goals simp

@[simp] theorem State.takeNew_store (r : PlacedRecord) : ((s.takeNew r).1).store = s.store := by
  unfold State.takeNew
  dsimp only
  repeat' split
  all_goals simp

@[simp] theorem State.takeNew_relay (r : PlacedRecord) : ((s.takeNew r).1).relay = s.relay := by
  unfold State.takeNew
  dsimp only
  repeat' split
  all_goals simp

@[simp] theorem State.takeNew_supplies (r : PlacedRecord) : ((s.takeNew r).1).supplies = s.supplies := by
  unfold State.takeNew
  dsimp only
  repeat' split
  all_goals simp

@[simp] theorem State.takeNew_resetLow (r : PlacedRecord) : ((s.takeNew r).1).resetLow = s.resetLow := by
  unfold State.takeNew
  dsimp only
  repeat' split
  all_goals simp

@[simp] theorem State.takeNew_pending (r : PlacedRecord) : ((s.takeNew r).1).pending = s.pending := by
  unfold State.takeNew
  dsimp only
  repeat' split
  all_goals simp

@[simp] theorem State.takeRecord_timebase (r : PlacedRecord) : ((s.takeRecord r).1).timebase = s.timebase := by
  unfold State.takeRecord
  dsimp only
  repeat' split
  all_goals simp

@[simp] theorem State.takeRecord_lanes (r : PlacedRecord) : ((s.takeRecord r).1).lanes = s.lanes := by
  unfold State.takeRecord
  dsimp only
  repeat' split
  all_goals simp

@[simp] theorem State.takeRecord_arbiter (r : PlacedRecord) : ((s.takeRecord r).1).arbiter = s.arbiter := by
  unfold State.takeRecord
  dsimp only
  repeat' split
  all_goals simp

@[simp] theorem State.takeRecord_store (r : PlacedRecord) : ((s.takeRecord r).1).store = s.store := by
  unfold State.takeRecord
  dsimp only
  repeat' split
  all_goals simp

@[simp] theorem State.takeRecord_relay (r : PlacedRecord) : ((s.takeRecord r).1).relay = s.relay := by
  unfold State.takeRecord
  dsimp only
  repeat' split
  all_goals simp

@[simp] theorem State.takeRecord_supplies (r : PlacedRecord) : ((s.takeRecord r).1).supplies = s.supplies := by
  unfold State.takeRecord
  dsimp only
  repeat' split
  all_goals simp

@[simp] theorem State.takeRecord_resetLow (r : PlacedRecord) : ((s.takeRecord r).1).resetLow = s.resetLow := by
  unfold State.takeRecord
  dsimp only
  repeat' split
  all_goals simp

@[simp] theorem State.takeRecord_pending (r : PlacedRecord) : ((s.takeRecord r).1).pending = s.pending := by
  unfold State.takeRecord
  dsimp only
  repeat' split
  all_goals simp

@[simp] theorem State.tableTake_timebase : (s.tableTake).timebase = s.timebase := by
  unfold State.tableTake
  dsimp only
  repeat' split
  all_goals simp

@[simp] theorem State.tableTake_lanes : (s.tableTake).lanes = s.lanes := by
  unfold State.tableTake
  dsimp only
  repeat' split
  all_goals simp

@[simp] theorem State.tableTake_store : (s.tableTake).store = s.store := by
  unfold State.tableTake
  dsimp only
  repeat' split
  all_goals simp

@[simp] theorem State.tableTake_relay : (s.tableTake).relay = s.relay := by
  unfold State.tableTake
  dsimp only
  repeat' split
  all_goals simp

@[simp] theorem State.tableTake_supplies : (s.tableTake).supplies = s.supplies := by
  unfold State.tableTake
  dsimp only
  repeat' split
  all_goals simp

@[simp] theorem State.tableTake_resetLow : (s.tableTake).resetLow = s.resetLow := by
  unfold State.tableTake
  dsimp only
  repeat' split
  all_goals simp

@[simp] theorem State.tableTake_pending : (s.tableTake).pending = s.pending := by
  unfold State.tableTake
  dsimp only
  repeat' split
  all_goals simp

/-! ### The intake, the relay and the lanes -/

@[simp] theorem State.applyPlacement_timebase (pl : Placement) : (s.applyPlacement pl).timebase = s.timebase := by
  cases pl with
  | fault sup k => cases sup <;> simp [State.applyPlacement]
  | _ => simp [State.applyPlacement]

@[simp] theorem State.applyPlacement_lanes (pl : Placement) : (s.applyPlacement pl).lanes = s.lanes := by
  cases pl with
  | fault sup k => cases sup <;> simp [State.applyPlacement]
  | _ => simp [State.applyPlacement]

@[simp] theorem State.applyPlacement_table (pl : Placement) : (s.applyPlacement pl).table = s.table := by
  cases pl with
  | fault sup k => cases sup <;> simp [State.applyPlacement]
  | _ => simp [State.applyPlacement]

@[simp] theorem State.applyPlacement_store (pl : Placement) : (s.applyPlacement pl).store = s.store := by
  cases pl with
  | fault sup k => cases sup <;> simp [State.applyPlacement]
  | _ => simp [State.applyPlacement]

@[simp] theorem State.applyPlacement_relay (pl : Placement) : (s.applyPlacement pl).relay = s.relay := by
  cases pl with
  | fault sup k => cases sup <;> simp [State.applyPlacement]
  | _ => simp [State.applyPlacement]

@[simp] theorem State.applyPlacement_supplies (pl : Placement) : (s.applyPlacement pl).supplies = s.supplies := by
  cases pl with
  | fault sup k => cases sup <;> simp [State.applyPlacement]
  | _ => simp [State.applyPlacement]

@[simp] theorem State.applyPlacement_resetLow (pl : Placement) : (s.applyPlacement pl).resetLow = s.resetLow := by
  cases pl with
  | fault sup k => cases sup <;> simp [State.applyPlacement]
  | _ => simp [State.applyPlacement]

@[simp] theorem State.applyPlacement_pending (pl : Placement) : (s.applyPlacement pl).pending = s.pending := by
  cases pl with
  | fault sup k => cases sup <;> simp [State.applyPlacement]
  | _ => simp [State.applyPlacement]

@[simp] theorem State.commandEffect_timebase (i : StreamId) (a : Action) : (s.commandEffect i a).timebase = s.timebase := by
  cases a <;> simp [State.commandEffect]

@[simp] theorem State.commandEffect_lanes (i : StreamId) (a : Action) : (s.commandEffect i a).lanes = s.lanes := by
  cases a <;> simp [State.commandEffect]

@[simp] theorem State.commandEffect_arbiter (i : StreamId) (a : Action) : (s.commandEffect i a).arbiter = s.arbiter := by
  cases a <;> simp [State.commandEffect]

@[simp] theorem State.commandEffect_table (i : StreamId) (a : Action) : (s.commandEffect i a).table = s.table := by
  cases a <;> simp [State.commandEffect]

@[simp] theorem State.commandEffect_store (i : StreamId) (a : Action) : (s.commandEffect i a).store = s.store := by
  cases a <;> simp [State.commandEffect]

@[simp] theorem State.commandEffect_relay (i : StreamId) (a : Action) : (s.commandEffect i a).relay = s.relay := by
  cases a <;> simp [State.commandEffect]

@[simp] theorem State.commandEffect_ports (i : StreamId) (a : Action) : (s.commandEffect i a).ports = s.ports := by
  cases a <;> simp [State.commandEffect]

@[simp] theorem State.commandEffect_supplies (i : StreamId) (a : Action) : (s.commandEffect i a).supplies = s.supplies := by
  cases a <;> simp [State.commandEffect]

@[simp] theorem State.commandEffect_resetLow (i : StreamId) (a : Action) : (s.commandEffect i a).resetLow = s.resetLow := by
  cases a <;> simp [State.commandEffect]

@[simp] theorem State.commandEffect_pending (i : StreamId) (a : Action) : (s.commandEffect i a).pending = s.pending := by
  cases a <;> simp [State.commandEffect]

@[simp] theorem State.completeCommand_timebase (i : StreamId) (c : CommandSlot) (r : AckResult) (arrival : Nat) : (s.completeCommand i c r arrival).timebase = s.timebase := by
  unfold State.completeCommand
  dsimp only
  split <;> simp

@[simp] theorem State.completeCommand_lanes (i : StreamId) (c : CommandSlot) (r : AckResult) (arrival : Nat) : (s.completeCommand i c r arrival).lanes = s.lanes := by
  unfold State.completeCommand
  dsimp only
  split <;> simp

@[simp] theorem State.completeCommand_arbiter (i : StreamId) (c : CommandSlot) (r : AckResult) (arrival : Nat) : (s.completeCommand i c r arrival).arbiter = s.arbiter := by
  unfold State.completeCommand
  dsimp only
  split <;> simp

@[simp] theorem State.completeCommand_table (i : StreamId) (c : CommandSlot) (r : AckResult) (arrival : Nat) : (s.completeCommand i c r arrival).table = s.table := by
  unfold State.completeCommand
  dsimp only
  split <;> simp

@[simp] theorem State.completeCommand_store (i : StreamId) (c : CommandSlot) (r : AckResult) (arrival : Nat) : (s.completeCommand i c r arrival).store = s.store := by
  unfold State.completeCommand
  dsimp only
  split <;> simp

@[simp] theorem State.completeCommand_supplies (i : StreamId) (c : CommandSlot) (r : AckResult) (arrival : Nat) : (s.completeCommand i c r arrival).supplies = s.supplies := by
  unfold State.completeCommand
  dsimp only
  split <;> simp

@[simp] theorem State.completeCommand_resetLow (i : StreamId) (c : CommandSlot) (r : AckResult) (arrival : Nat) : (s.completeCommand i c r arrival).resetLow = s.resetLow := by
  unfold State.completeCommand
  dsimp only
  split <;> simp

@[simp] theorem State.completeCommand_pending (i : StreamId) (c : CommandSlot) (r : AckResult) (arrival : Nat) : (s.completeCommand i c r arrival).pending = s.pending := by
  unfold State.completeCommand
  dsimp only
  split <;> simp

@[simp] theorem State.timeOutCommand_timebase (i : StreamId) (c : CommandSlot) : (s.timeOutCommand i c).timebase = s.timebase := by
  simp [State.timeOutCommand]

@[simp] theorem State.timeOutCommand_lanes (i : StreamId) (c : CommandSlot) : (s.timeOutCommand i c).lanes = s.lanes := by
  simp [State.timeOutCommand]

@[simp] theorem State.timeOutCommand_arbiter (i : StreamId) (c : CommandSlot) : (s.timeOutCommand i c).arbiter = s.arbiter := by
  simp [State.timeOutCommand]

@[simp] theorem State.timeOutCommand_table (i : StreamId) (c : CommandSlot) : (s.timeOutCommand i c).table = s.table := by
  simp [State.timeOutCommand]

@[simp] theorem State.timeOutCommand_supervisor (i : StreamId) (c : CommandSlot) : (s.timeOutCommand i c).supervisor = s.supervisor := by
  simp [State.timeOutCommand]

@[simp] theorem State.timeOutCommand_store (i : StreamId) (c : CommandSlot) : (s.timeOutCommand i c).store = s.store := by
  simp [State.timeOutCommand]

@[simp] theorem State.timeOutCommand_supplies (i : StreamId) (c : CommandSlot) : (s.timeOutCommand i c).supplies = s.supplies := by
  simp [State.timeOutCommand]

@[simp] theorem State.timeOutCommand_resetLow (i : StreamId) (c : CommandSlot) : (s.timeOutCommand i c).resetLow = s.resetLow := by
  simp [State.timeOutCommand]

@[simp] theorem State.timeOutCommand_pending (i : StreamId) (c : CommandSlot) : (s.timeOutCommand i c).pending = s.pending := by
  simp [State.timeOutCommand]

@[simp] theorem State.acknowledge_timebase (a : Ack) (arrival : Nat) : (s.acknowledge a arrival).timebase = s.timebase := by
  unfold State.acknowledge
  split <;> simp

@[simp] theorem State.acknowledge_lanes (a : Ack) (arrival : Nat) : (s.acknowledge a arrival).lanes = s.lanes := by
  unfold State.acknowledge
  split <;> simp

@[simp] theorem State.acknowledge_arbiter (a : Ack) (arrival : Nat) : (s.acknowledge a arrival).arbiter = s.arbiter := by
  unfold State.acknowledge
  split <;> simp

@[simp] theorem State.acknowledge_table (a : Ack) (arrival : Nat) : (s.acknowledge a arrival).table = s.table := by
  unfold State.acknowledge
  split <;> simp

@[simp] theorem State.acknowledge_store (a : Ack) (arrival : Nat) : (s.acknowledge a arrival).store = s.store := by
  unfold State.acknowledge
  split <;> simp

@[simp] theorem State.acknowledge_supplies (a : Ack) (arrival : Nat) : (s.acknowledge a arrival).supplies = s.supplies := by
  unfold State.acknowledge
  split <;> simp

@[simp] theorem State.acknowledge_resetLow (a : Ack) (arrival : Nat) : (s.acknowledge a arrival).resetLow = s.resetLow := by
  unfold State.acknowledge
  split <;> simp

@[simp] theorem State.acknowledge_pending (a : Ack) (arrival : Nat) : (s.acknowledge a arrival).pending = s.pending := by
  unfold State.acknowledge
  split <;> simp

@[simp] theorem State.routeItem_timebase (item : QueueItem) : (s.routeItem item).timebase = s.timebase := by
  unfold State.routeItem
  repeat' split
  all_goals simp

@[simp] theorem State.routeItem_lanes (item : QueueItem) : (s.routeItem item).lanes = s.lanes := by
  unfold State.routeItem
  repeat' split
  all_goals simp

@[simp] theorem State.routeItem_table (item : QueueItem) : (s.routeItem item).table = s.table := by
  unfold State.routeItem
  repeat' split
  all_goals simp

@[simp] theorem State.routeItem_store (item : QueueItem) : (s.routeItem item).store = s.store := by
  unfold State.routeItem
  repeat' split
  all_goals simp

@[simp] theorem State.routeItem_supplies (item : QueueItem) : (s.routeItem item).supplies = s.supplies := by
  unfold State.routeItem
  repeat' split
  all_goals simp

@[simp] theorem State.routeItem_resetLow (item : QueueItem) : (s.routeItem item).resetLow = s.resetLow := by
  unfold State.routeItem
  repeat' split
  all_goals simp

@[simp] theorem State.routeItem_pending (item : QueueItem) : (s.routeItem item).pending = s.pending := by
  unfold State.routeItem
  repeat' split
  all_goals simp

@[simp] theorem State.arbiterTake_timebase : (s.arbiterTake).timebase = s.timebase := by
  unfold State.arbiterTake
  split <;> simp

@[simp] theorem State.arbiterTake_table : (s.arbiterTake).table = s.table := by
  unfold State.arbiterTake
  split <;> simp

@[simp] theorem State.arbiterTake_store : (s.arbiterTake).store = s.store := by
  unfold State.arbiterTake
  split <;> simp

@[simp] theorem State.arbiterTake_supplies : (s.arbiterTake).supplies = s.supplies := by
  unfold State.arbiterTake
  split <;> simp

@[simp] theorem State.arbiterTake_resetLow : (s.arbiterTake).resetLow = s.resetLow := by
  unfold State.arbiterTake
  split <;> simp

@[simp] theorem State.arbiterTake_pending : (s.arbiterTake).pending = s.pending := by
  unfold State.arbiterTake
  split <;> simp

@[simp] theorem State.discardLaneFrame_timebase (l : LaneId) : (s.discardLaneFrame l).timebase = s.timebase := by
  simp [State.discardLaneFrame]

@[simp] theorem State.discardLaneFrame_arbiter (l : LaneId) : (s.discardLaneFrame l).arbiter = s.arbiter := by
  simp [State.discardLaneFrame]

@[simp] theorem State.discardLaneFrame_table (l : LaneId) : (s.discardLaneFrame l).table = s.table := by
  simp [State.discardLaneFrame]

@[simp] theorem State.discardLaneFrame_supervisor (l : LaneId) : (s.discardLaneFrame l).supervisor = s.supervisor := by
  simp [State.discardLaneFrame]

@[simp] theorem State.discardLaneFrame_store (l : LaneId) : (s.discardLaneFrame l).store = s.store := by
  simp [State.discardLaneFrame]

@[simp] theorem State.discardLaneFrame_relay (l : LaneId) : (s.discardLaneFrame l).relay = s.relay := by
  simp [State.discardLaneFrame]

@[simp] theorem State.discardLaneFrame_supplies (l : LaneId) : (s.discardLaneFrame l).supplies = s.supplies := by
  simp [State.discardLaneFrame]

@[simp] theorem State.discardLaneFrame_resetLow (l : LaneId) : (s.discardLaneFrame l).resetLow = s.resetLow := by
  simp [State.discardLaneFrame]

@[simp] theorem State.discardLaneFrame_pending (l : LaneId) : (s.discardLaneFrame l).pending = s.pending := by
  simp [State.discardLaneFrame]

@[simp] theorem State.validLaneFrame_timebase (l : LaneId) (c : LaneContent) : (s.validLaneFrame l c).timebase = s.timebase := by
  unfold State.validLaneFrame
  dsimp only
  split <;> simp

@[simp] theorem State.validLaneFrame_arbiter (l : LaneId) (c : LaneContent) : (s.validLaneFrame l c).arbiter = s.arbiter := by
  unfold State.validLaneFrame
  dsimp only
  split <;> simp

@[simp] theorem State.validLaneFrame_table (l : LaneId) (c : LaneContent) : (s.validLaneFrame l c).table = s.table := by
  unfold State.validLaneFrame
  dsimp only
  split <;> simp

@[simp] theorem State.validLaneFrame_supervisor (l : LaneId) (c : LaneContent) : (s.validLaneFrame l c).supervisor = s.supervisor := by
  unfold State.validLaneFrame
  dsimp only
  split <;> simp

@[simp] theorem State.validLaneFrame_store (l : LaneId) (c : LaneContent) : (s.validLaneFrame l c).store = s.store := by
  unfold State.validLaneFrame
  dsimp only
  split <;> simp

@[simp] theorem State.validLaneFrame_relay (l : LaneId) (c : LaneContent) : (s.validLaneFrame l c).relay = s.relay := by
  unfold State.validLaneFrame
  dsimp only
  split <;> simp

@[simp] theorem State.validLaneFrame_supplies (l : LaneId) (c : LaneContent) : (s.validLaneFrame l c).supplies = s.supplies := by
  unfold State.validLaneFrame
  dsimp only
  split <;> simp

@[simp] theorem State.validLaneFrame_resetLow (l : LaneId) (c : LaneContent) : (s.validLaneFrame l c).resetLow = s.resetLow := by
  unfold State.validLaneFrame
  dsimp only
  split <;> simp

@[simp] theorem State.validLaneFrame_pending (l : LaneId) (c : LaneContent) : (s.validLaneFrame l c).pending = s.pending := by
  unfold State.validLaneFrame
  dsimp only
  split <;> simp

@[simp] theorem State.laneArrival_timebase (l : LaneId) (a : Arrival) : (s.laneArrival l a).timebase = s.timebase := by
  unfold State.laneArrival
  repeat' split
  all_goals simp

@[simp] theorem State.laneArrival_arbiter (l : LaneId) (a : Arrival) : (s.laneArrival l a).arbiter = s.arbiter := by
  unfold State.laneArrival
  repeat' split
  all_goals simp

@[simp] theorem State.laneArrival_table (l : LaneId) (a : Arrival) : (s.laneArrival l a).table = s.table := by
  unfold State.laneArrival
  repeat' split
  all_goals simp

@[simp] theorem State.laneArrival_supervisor (l : LaneId) (a : Arrival) : (s.laneArrival l a).supervisor = s.supervisor := by
  unfold State.laneArrival
  repeat' split
  all_goals simp

@[simp] theorem State.laneArrival_store (l : LaneId) (a : Arrival) : (s.laneArrival l a).store = s.store := by
  unfold State.laneArrival
  repeat' split
  all_goals simp

@[simp] theorem State.laneArrival_relay (l : LaneId) (a : Arrival) : (s.laneArrival l a).relay = s.relay := by
  unfold State.laneArrival
  repeat' split
  all_goals simp

@[simp] theorem State.laneArrival_supplies (l : LaneId) (a : Arrival) : (s.laneArrival l a).supplies = s.supplies := by
  unfold State.laneArrival
  repeat' split
  all_goals simp

@[simp] theorem State.laneArrival_resetLow (l : LaneId) (a : Arrival) : (s.laneArrival l a).resetLow = s.resetLow := by
  unfold State.laneArrival
  repeat' split
  all_goals simp

@[simp] theorem State.laneArrival_pending (l : LaneId) (a : Arrival) : (s.laneArrival l a).pending = s.pending := by
  unfold State.laneArrival
  repeat' split
  all_goals simp

@[simp] theorem State.laneEvent_timebase (l : LaneId) (e : LineEvent) : (s.laneEvent l e).timebase = s.timebase := by
  simp [State.laneEvent]

@[simp] theorem State.laneEvent_arbiter (l : LaneId) (e : LineEvent) : (s.laneEvent l e).arbiter = s.arbiter := by
  simp [State.laneEvent]

@[simp] theorem State.laneEvent_table (l : LaneId) (e : LineEvent) : (s.laneEvent l e).table = s.table := by
  simp [State.laneEvent]

@[simp] theorem State.laneEvent_supervisor (l : LaneId) (e : LineEvent) : (s.laneEvent l e).supervisor = s.supervisor := by
  simp [State.laneEvent]

@[simp] theorem State.laneEvent_store (l : LaneId) (e : LineEvent) : (s.laneEvent l e).store = s.store := by
  simp [State.laneEvent]

@[simp] theorem State.laneEvent_relay (l : LaneId) (e : LineEvent) : (s.laneEvent l e).relay = s.relay := by
  simp [State.laneEvent]

@[simp] theorem State.laneEvent_supplies (l : LaneId) (e : LineEvent) : (s.laneEvent l e).supplies = s.supplies := by
  simp [State.laneEvent]

@[simp] theorem State.laneEvent_resetLow (l : LaneId) (e : LineEvent) : (s.laneEvent l e).resetLow = s.resetLow := by
  simp [State.laneEvent]

@[simp] theorem State.laneEvent_pending (l : LaneId) (e : LineEvent) : (s.laneEvent l e).pending = s.pending := by
  simp [State.laneEvent]

@[simp] theorem State.laneSilence_timebase (l : LaneId) : (s.laneSilence l).timebase = s.timebase := by
  unfold State.laneSilence
  split <;> simp

@[simp] theorem State.laneSilence_arbiter (l : LaneId) : (s.laneSilence l).arbiter = s.arbiter := by
  unfold State.laneSilence
  split <;> simp

@[simp] theorem State.laneSilence_table (l : LaneId) : (s.laneSilence l).table = s.table := by
  unfold State.laneSilence
  split <;> simp

@[simp] theorem State.laneSilence_supervisor (l : LaneId) : (s.laneSilence l).supervisor = s.supervisor := by
  unfold State.laneSilence
  split <;> simp

@[simp] theorem State.laneSilence_store (l : LaneId) : (s.laneSilence l).store = s.store := by
  unfold State.laneSilence
  split <;> simp

@[simp] theorem State.laneSilence_relay (l : LaneId) : (s.laneSilence l).relay = s.relay := by
  unfold State.laneSilence
  split <;> simp

@[simp] theorem State.laneSilence_supplies (l : LaneId) : (s.laneSilence l).supplies = s.supplies := by
  unfold State.laneSilence
  split <;> simp

@[simp] theorem State.laneSilence_resetLow (l : LaneId) : (s.laneSilence l).resetLow = s.resetLow := by
  unfold State.laneSilence
  split <;> simp

@[simp] theorem State.laneSilence_pending (l : LaneId) : (s.laneSilence l).pending = s.pending := by
  unfold State.laneSilence
  split <;> simp

/-! ### The profile store -/

@[simp] theorem State.claimExpiry_timebase : (s.claimExpiry).timebase = s.timebase := by
  unfold State.claimExpiry
  repeat' split
  all_goals simp

@[simp] theorem State.claimExpiry_lanes : (s.claimExpiry).lanes = s.lanes := by
  unfold State.claimExpiry
  repeat' split
  all_goals simp

@[simp] theorem State.claimExpiry_arbiter : (s.claimExpiry).arbiter = s.arbiter := by
  unfold State.claimExpiry
  repeat' split
  all_goals simp

@[simp] theorem State.claimExpiry_table : (s.claimExpiry).table = s.table := by
  unfold State.claimExpiry
  repeat' split
  all_goals simp

@[simp] theorem State.claimExpiry_supervisor : (s.claimExpiry).supervisor = s.supervisor := by
  unfold State.claimExpiry
  repeat' split
  all_goals simp

@[simp] theorem State.claimExpiry_relay : (s.claimExpiry).relay = s.relay := by
  unfold State.claimExpiry
  repeat' split
  all_goals simp

@[simp] theorem State.claimExpiry_supplies : (s.claimExpiry).supplies = s.supplies := by
  unfold State.claimExpiry
  repeat' split
  all_goals simp

@[simp] theorem State.claimExpiry_resetLow : (s.claimExpiry).resetLow = s.resetLow := by
  unfold State.claimExpiry
  repeat' split
  all_goals simp

@[simp] theorem State.claimExpiry_pending : (s.claimExpiry).pending = s.pending := by
  unfold State.claimExpiry
  repeat' split
  all_goals simp

@[simp] theorem State.storeSecond_timebase (x : Nat) : (s.storeSecond x).timebase = s.timebase := by
  unfold State.storeSecond
  repeat' split
  all_goals simp

@[simp] theorem State.storeSecond_lanes (x : Nat) : (s.storeSecond x).lanes = s.lanes := by
  unfold State.storeSecond
  repeat' split
  all_goals simp

@[simp] theorem State.storeSecond_arbiter (x : Nat) : (s.storeSecond x).arbiter = s.arbiter := by
  unfold State.storeSecond
  repeat' split
  all_goals simp

@[simp] theorem State.storeSecond_table (x : Nat) : (s.storeSecond x).table = s.table := by
  unfold State.storeSecond
  repeat' split
  all_goals simp

@[simp] theorem State.storeSecond_relay (x : Nat) : (s.storeSecond x).relay = s.relay := by
  unfold State.storeSecond
  repeat' split
  all_goals simp

@[simp] theorem State.storeSecond_supplies (x : Nat) : (s.storeSecond x).supplies = s.supplies := by
  unfold State.storeSecond
  repeat' split
  all_goals simp

@[simp] theorem State.storeSecond_resetLow (x : Nat) : (s.storeSecond x).resetLow = s.resetLow := by
  unfold State.storeSecond
  repeat' split
  all_goals simp

@[simp] theorem State.storeSecond_pending (x : Nat) : (s.storeSecond x).pending = s.pending := by
  unfold State.storeSecond
  repeat' split
  all_goals simp

@[simp] theorem State.endDraining_timebase : (s.endDraining).timebase = s.timebase := by
  unfold State.endDraining
  repeat' split
  all_goals simp

@[simp] theorem State.endDraining_lanes : (s.endDraining).lanes = s.lanes := by
  unfold State.endDraining
  repeat' split
  all_goals simp

@[simp] theorem State.endDraining_arbiter : (s.endDraining).arbiter = s.arbiter := by
  unfold State.endDraining
  repeat' split
  all_goals simp

@[simp] theorem State.endDraining_table : (s.endDraining).table = s.table := by
  unfold State.endDraining
  repeat' split
  all_goals simp

@[simp] theorem State.endDraining_supervisor : (s.endDraining).supervisor = s.supervisor := by
  unfold State.endDraining
  repeat' split
  all_goals simp

@[simp] theorem State.endDraining_relay : (s.endDraining).relay = s.relay := by
  unfold State.endDraining
  repeat' split
  all_goals simp

@[simp] theorem State.endDraining_ports : (s.endDraining).ports = s.ports := by
  unfold State.endDraining
  repeat' split
  all_goals simp

@[simp] theorem State.endDraining_supplies : (s.endDraining).supplies = s.supplies := by
  unfold State.endDraining
  repeat' split
  all_goals simp

@[simp] theorem State.endDraining_resetLow : (s.endDraining).resetLow = s.resetLow := by
  unfold State.endDraining
  repeat' split
  all_goals simp

@[simp] theorem State.endDraining_pending : (s.endDraining).pending = s.pending := by
  unfold State.endDraining
  repeat' split
  all_goals simp

/-! ### The timebase -/

@[simp] theorem State.takeSecond_lanes (x : Nat) : (s.takeSecond x).lanes = s.lanes := by
  simp [State.takeSecond]

@[simp] theorem State.takeSecond_arbiter (x : Nat) : (s.takeSecond x).arbiter = s.arbiter := by
  simp [State.takeSecond]

@[simp] theorem State.takeSecond_table (x : Nat) : (s.takeSecond x).table = s.table := by
  simp [State.takeSecond]

@[simp] theorem State.takeSecond_relay (x : Nat) : (s.takeSecond x).relay = s.relay := by
  simp [State.takeSecond]

@[simp] theorem State.takeSecond_supplies (x : Nat) : (s.takeSecond x).supplies = s.supplies := by
  simp [State.takeSecond]

@[simp] theorem State.takeSecond_resetLow (x : Nat) : (s.takeSecond x).resetLow = s.resetLow := by
  simp [State.takeSecond]

@[simp] theorem State.takeSecond_pending (x : Nat) : (s.takeSecond x).pending = s.pending := by
  simp [State.takeSecond]

/-- A second-boundary event changes the timebase in its note of the last event alone. -/
@[simp] theorem State.takeSecond_timebase (x : Nat) :
    (s.takeSecond x).timebase = { s.timebase with lastSecondEvent := some x } := by
  simp [State.takeSecond]

@[simp] theorem State.takeDueSecond_lanes : (s.takeDueSecond).lanes = s.lanes := by
  unfold State.takeDueSecond
  split <;> simp

@[simp] theorem State.takeDueSecond_arbiter : (s.takeDueSecond).arbiter = s.arbiter := by
  unfold State.takeDueSecond
  split <;> simp

@[simp] theorem State.takeDueSecond_table : (s.takeDueSecond).table = s.table := by
  unfold State.takeDueSecond
  split <;> simp

@[simp] theorem State.takeDueSecond_relay : (s.takeDueSecond).relay = s.relay := by
  unfold State.takeDueSecond
  split <;> simp

@[simp] theorem State.takeDueSecond_supplies : (s.takeDueSecond).supplies = s.supplies := by
  unfold State.takeDueSecond
  split <;> simp

@[simp] theorem State.takeDueSecond_resetLow : (s.takeDueSecond).resetLow = s.resetLow := by
  unfold State.takeDueSecond
  split <;> simp

@[simp] theorem State.takeDueSecond_pending : (s.takeDueSecond).pending = s.pending := by
  unfold State.takeDueSecond
  split <;> simp

@[simp] theorem State.raiseDiscontinuity_timebase : (s.raiseDiscontinuity).timebase = s.timebase := by
  simp [State.raiseDiscontinuity]

@[simp] theorem State.raiseDiscontinuity_lanes : (s.raiseDiscontinuity).lanes = s.lanes := by
  simp [State.raiseDiscontinuity]

@[simp] theorem State.raiseDiscontinuity_arbiter : (s.raiseDiscontinuity).arbiter = s.arbiter := by
  simp [State.raiseDiscontinuity]

@[simp] theorem State.raiseDiscontinuity_supervisor : (s.raiseDiscontinuity).supervisor = s.supervisor := by
  simp [State.raiseDiscontinuity]

@[simp] theorem State.raiseDiscontinuity_store : (s.raiseDiscontinuity).store = s.store := by
  simp [State.raiseDiscontinuity]

@[simp] theorem State.raiseDiscontinuity_relay : (s.raiseDiscontinuity).relay = s.relay := by
  simp [State.raiseDiscontinuity]

@[simp] theorem State.raiseDiscontinuity_supplies : (s.raiseDiscontinuity).supplies = s.supplies := by
  simp [State.raiseDiscontinuity]

@[simp] theorem State.raiseDiscontinuity_resetLow : (s.raiseDiscontinuity).resetLow = s.resetLow := by
  simp [State.raiseDiscontinuity]

@[simp] theorem State.raiseDiscontinuity_pending : (s.raiseDiscontinuity).pending = s.pending := by
  simp [State.raiseDiscontinuity]

@[simp] theorem State.lock_lanes : (s.lock).lanes = s.lanes := by
  simp [State.lock]

@[simp] theorem State.lock_arbiter : (s.lock).arbiter = s.arbiter := by
  simp [State.lock]

@[simp] theorem State.lock_table : (s.lock).table = s.table := by
  simp [State.lock]

@[simp] theorem State.lock_supervisor : (s.lock).supervisor = s.supervisor := by
  simp [State.lock]

@[simp] theorem State.lock_store : (s.lock).store = s.store := by
  simp [State.lock]

@[simp] theorem State.lock_relay : (s.lock).relay = s.relay := by
  simp [State.lock]

@[simp] theorem State.lock_supplies : (s.lock).supplies = s.supplies := by
  simp [State.lock]

@[simp] theorem State.lock_resetLow : (s.lock).resetLow = s.resetLow := by
  simp [State.lock]

@[simp] theorem State.lock_pending : (s.lock).pending = s.pending := by
  simp [State.lock]

@[simp] theorem State.reject_lanes (e : Int) : (s.reject e).lanes = s.lanes := by
  simp [State.reject]

@[simp] theorem State.reject_arbiter (e : Int) : (s.reject e).arbiter = s.arbiter := by
  simp [State.reject]

@[simp] theorem State.reject_table (e : Int) : (s.reject e).table = s.table := by
  simp [State.reject]

@[simp] theorem State.reject_supervisor (e : Int) : (s.reject e).supervisor = s.supervisor := by
  simp [State.reject]

@[simp] theorem State.reject_store (e : Int) : (s.reject e).store = s.store := by
  simp [State.reject]

@[simp] theorem State.reject_relay (e : Int) : (s.reject e).relay = s.relay := by
  simp [State.reject]

@[simp] theorem State.reject_supplies (e : Int) : (s.reject e).supplies = s.supplies := by
  simp [State.reject]

@[simp] theorem State.reject_resetLow (e : Int) : (s.reject e).resetLow = s.resetLow := by
  simp [State.reject]

@[simp] theorem State.reject_pending (e : Int) : (s.reject e).pending = s.pending := by
  simp [State.reject]

@[simp] theorem State.beginPause_lanes (p : Nat) (w : Bool) : (s.beginPause p w).lanes = s.lanes := by
  unfold State.beginPause
  dsimp only
  split <;> simp

@[simp] theorem State.beginPause_arbiter (p : Nat) (w : Bool) : (s.beginPause p w).arbiter = s.arbiter := by
  unfold State.beginPause
  dsimp only
  split <;> simp

@[simp] theorem State.beginPause_supervisor (p : Nat) (w : Bool) : (s.beginPause p w).supervisor = s.supervisor := by
  unfold State.beginPause
  dsimp only
  split <;> simp

@[simp] theorem State.beginPause_store (p : Nat) (w : Bool) : (s.beginPause p w).store = s.store := by
  unfold State.beginPause
  dsimp only
  split <;> simp

@[simp] theorem State.beginPause_relay (p : Nat) (w : Bool) : (s.beginPause p w).relay = s.relay := by
  unfold State.beginPause
  dsimp only
  split <;> simp

@[simp] theorem State.beginPause_supplies (p : Nat) (w : Bool) : (s.beginPause p w).supplies = s.supplies := by
  unfold State.beginPause
  dsimp only
  split <;> simp

@[simp] theorem State.beginPause_resetLow (p : Nat) (w : Bool) : (s.beginPause p w).resetLow = s.resetLow := by
  unfold State.beginPause
  dsimp only
  split <;> simp

@[simp] theorem State.beginPause_pending (p : Nat) (w : Bool) : (s.beginPause p w).pending = s.pending := by
  unfold State.beginPause
  dsimp only
  split <;> simp

@[simp] theorem State.stepTo_lanes (x : Nat) : (s.stepTo x).lanes = s.lanes := by
  simp [State.stepTo]

@[simp] theorem State.stepTo_arbiter (x : Nat) : (s.stepTo x).arbiter = s.arbiter := by
  simp [State.stepTo]

@[simp] theorem State.stepTo_relay (x : Nat) : (s.stepTo x).relay = s.relay := by
  simp [State.stepTo]

@[simp] theorem State.stepTo_supplies (x : Nat) : (s.stepTo x).supplies = s.supplies := by
  simp [State.stepTo]

@[simp] theorem State.stepTo_resetLow (x : Nat) : (s.stepTo x).resetLow = s.resetLow := by
  simp [State.stepTo]

@[simp] theorem State.stepTo_pending (x : Nat) : (s.stepTo x).pending = s.pending := by
  simp [State.stepTo]

@[simp] theorem State.correct_lanes (x : Nat) (e : Int) (w : Bool) : (s.correct x e w).lanes = s.lanes := by
  unfold State.correct
  repeat' split
  all_goals simp

@[simp] theorem State.correct_arbiter (x : Nat) (e : Int) (w : Bool) : (s.correct x e w).arbiter = s.arbiter := by
  unfold State.correct
  repeat' split
  all_goals simp

@[simp] theorem State.correct_relay (x : Nat) (e : Int) (w : Bool) : (s.correct x e w).relay = s.relay := by
  unfold State.correct
  repeat' split
  all_goals simp

@[simp] theorem State.correct_supplies (x : Nat) (e : Int) (w : Bool) : (s.correct x e w).supplies = s.supplies := by
  unfold State.correct
  repeat' split
  all_goals simp

@[simp] theorem State.correct_resetLow (x : Nat) (e : Int) (w : Bool) : (s.correct x e w).resetLow = s.resetLow := by
  unfold State.correct
  repeat' split
  all_goals simp

@[simp] theorem State.correct_pending (x : Nat) (e : Int) (w : Bool) : (s.correct x e w).pending = s.pending := by
  unfold State.correct
  repeat' split
  all_goals simp

@[simp] theorem State.settleAcceptance_lanes (e : Int) : (s.settleAcceptance e).lanes = s.lanes := rfl

@[simp] theorem State.settleAcceptance_arbiter (e : Int) : (s.settleAcceptance e).arbiter = s.arbiter := rfl

@[simp] theorem State.settleAcceptance_relay (e : Int) : (s.settleAcceptance e).relay = s.relay := rfl

@[simp] theorem State.settleAcceptance_supplies (e : Int) : (s.settleAcceptance e).supplies = s.supplies := rfl

@[simp] theorem State.settleAcceptance_resetLow (e : Int) : (s.settleAcceptance e).resetLow = s.resetLow := rfl

@[simp] theorem State.settleAcceptance_pending (e : Int) : (s.settleAcceptance e).pending = s.pending := rfl

@[simp] theorem State.applyError_lanes (x : Nat) (e : Int) : (s.applyError x e).lanes = s.lanes := by
  unfold State.applyError
  split <;> simp

@[simp] theorem State.applyError_arbiter (x : Nat) (e : Int) : (s.applyError x e).arbiter = s.arbiter := by
  unfold State.applyError
  split <;> simp

@[simp] theorem State.applyError_relay (x : Nat) (e : Int) : (s.applyError x e).relay = s.relay := by
  unfold State.applyError
  split <;> simp

@[simp] theorem State.applyError_supplies (x : Nat) (e : Int) : (s.applyError x e).supplies = s.supplies := by
  unfold State.applyError
  split <;> simp

@[simp] theorem State.applyError_resetLow (x : Nat) (e : Int) : (s.applyError x e).resetLow = s.resetLow := by
  unfold State.applyError
  split <;> simp

@[simp] theorem State.applyError_pending (x : Nat) (e : Int) : (s.applyError x e).pending = s.pending := by
  unfold State.applyError
  split <;> simp

@[simp] theorem State.applyPps_lanes (x : Nat) (t : LocalTime) : (s.applyPps x t).lanes = s.lanes := by
  simp [State.applyPps]

@[simp] theorem State.applyPps_arbiter (x : Nat) (t : LocalTime) : (s.applyPps x t).arbiter = s.arbiter := by
  simp [State.applyPps]

@[simp] theorem State.applyPps_relay (x : Nat) (t : LocalTime) : (s.applyPps x t).relay = s.relay := by
  simp [State.applyPps]

@[simp] theorem State.applyPps_supplies (x : Nat) (t : LocalTime) : (s.applyPps x t).supplies = s.supplies := by
  simp [State.applyPps]

@[simp] theorem State.applyPps_resetLow (x : Nat) (t : LocalTime) : (s.applyPps x t).resetLow = s.resetLow := by
  simp [State.applyPps]

@[simp] theorem State.applyPps_pending (x : Nat) (t : LocalTime) : (s.applyPps x t).pending = s.pending := by
  simp [State.applyPps]

@[simp] theorem State.applyUnset_lanes (x : Nat) : (s.applyUnset x).lanes = s.lanes := by
  unfold State.applyUnset
  dsimp only
  split <;> simp

@[simp] theorem State.applyUnset_arbiter (x : Nat) : (s.applyUnset x).arbiter = s.arbiter := by
  unfold State.applyUnset
  dsimp only
  split <;> simp

@[simp] theorem State.applyUnset_relay (x : Nat) : (s.applyUnset x).relay = s.relay := by
  unfold State.applyUnset
  dsimp only
  split <;> simp

@[simp] theorem State.applyUnset_supplies (x : Nat) : (s.applyUnset x).supplies = s.supplies := by
  unfold State.applyUnset
  dsimp only
  split <;> simp

@[simp] theorem State.applyUnset_resetLow (x : Nat) : (s.applyUnset x).resetLow = s.resetLow := by
  unfold State.applyUnset
  dsimp only
  split <;> simp

@[simp] theorem State.applyUnset_pending (x : Nat) : (s.applyUnset x).pending = s.pending := by
  unfold State.applyUnset
  dsimp only
  split <;> simp

@[simp] theorem State.ppsEdge_lanes : (s.ppsEdge).lanes = s.lanes := by
  unfold State.ppsEdge
  dsimp only
  repeat' split
  all_goals simp

@[simp] theorem State.ppsEdge_arbiter : (s.ppsEdge).arbiter = s.arbiter := by
  unfold State.ppsEdge
  dsimp only
  repeat' split
  all_goals simp

@[simp] theorem State.ppsEdge_relay : (s.ppsEdge).relay = s.relay := by
  unfold State.ppsEdge
  dsimp only
  repeat' split
  all_goals simp

@[simp] theorem State.ppsEdge_supplies : (s.ppsEdge).supplies = s.supplies := by
  unfold State.ppsEdge
  dsimp only
  repeat' split
  all_goals simp

@[simp] theorem State.ppsEdge_resetLow : (s.ppsEdge).resetLow = s.resetLow := by
  unfold State.ppsEdge
  dsimp only
  repeat' split
  all_goals simp

@[simp] theorem State.ppsEdge_pending : (s.ppsEdge).pending = s.pending := by
  unfold State.ppsEdge
  dsimp only
  repeat' split
  all_goals simp

@[simp] theorem State.ppsLoss_lanes : (s.ppsLoss).lanes = s.lanes := by
  unfold State.ppsLoss
  dsimp only
  split <;> simp

@[simp] theorem State.ppsLoss_arbiter : (s.ppsLoss).arbiter = s.arbiter := by
  unfold State.ppsLoss
  dsimp only
  split <;> simp

@[simp] theorem State.ppsLoss_table : (s.ppsLoss).table = s.table := by
  unfold State.ppsLoss
  dsimp only
  split <;> simp

@[simp] theorem State.ppsLoss_supervisor : (s.ppsLoss).supervisor = s.supervisor := by
  unfold State.ppsLoss
  dsimp only
  split <;> simp

@[simp] theorem State.ppsLoss_store : (s.ppsLoss).store = s.store := by
  unfold State.ppsLoss
  dsimp only
  split <;> simp

@[simp] theorem State.ppsLoss_relay : (s.ppsLoss).relay = s.relay := by
  unfold State.ppsLoss
  dsimp only
  split <;> simp

@[simp] theorem State.ppsLoss_supplies : (s.ppsLoss).supplies = s.supplies := by
  unfold State.ppsLoss
  dsimp only
  split <;> simp

@[simp] theorem State.ppsLoss_resetLow : (s.ppsLoss).resetLow = s.resetLow := by
  unfold State.ppsLoss
  dsimp only
  split <;> simp

@[simp] theorem State.ppsLoss_pending : (s.ppsLoss).pending = s.pending := by
  unfold State.ppsLoss
  dsimp only
  split <;> simp

@[simp] theorem State.holdoverEnd_lanes : (s.holdoverEnd).lanes = s.lanes := by
  unfold State.holdoverEnd
  dsimp only
  split <;> simp

@[simp] theorem State.holdoverEnd_arbiter : (s.holdoverEnd).arbiter = s.arbiter := by
  unfold State.holdoverEnd
  dsimp only
  split <;> simp

@[simp] theorem State.holdoverEnd_table : (s.holdoverEnd).table = s.table := by
  unfold State.holdoverEnd
  dsimp only
  split <;> simp

@[simp] theorem State.holdoverEnd_supervisor : (s.holdoverEnd).supervisor = s.supervisor := by
  unfold State.holdoverEnd
  dsimp only
  split <;> simp

@[simp] theorem State.holdoverEnd_store : (s.holdoverEnd).store = s.store := by
  unfold State.holdoverEnd
  dsimp only
  split <;> simp

@[simp] theorem State.holdoverEnd_relay : (s.holdoverEnd).relay = s.relay := by
  unfold State.holdoverEnd
  dsimp only
  split <;> simp

@[simp] theorem State.holdoverEnd_supplies : (s.holdoverEnd).supplies = s.supplies := by
  unfold State.holdoverEnd
  dsimp only
  split <;> simp

@[simp] theorem State.holdoverEnd_resetLow : (s.holdoverEnd).resetLow = s.resetLow := by
  unfold State.holdoverEnd
  dsimp only
  split <;> simp

@[simp] theorem State.holdoverEnd_pending : (s.holdoverEnd).pending = s.pending := by
  unfold State.holdoverEnd
  dsimp only
  split <;> simp

@[simp] theorem State.slewEnd_lanes : (s.slewEnd).lanes = s.lanes := by
  unfold State.slewEnd
  split <;> simp

@[simp] theorem State.slewEnd_arbiter : (s.slewEnd).arbiter = s.arbiter := by
  unfold State.slewEnd
  split <;> simp

@[simp] theorem State.slewEnd_table : (s.slewEnd).table = s.table := by
  unfold State.slewEnd
  split <;> simp

@[simp] theorem State.slewEnd_supervisor : (s.slewEnd).supervisor = s.supervisor := by
  unfold State.slewEnd
  split <;> simp

@[simp] theorem State.slewEnd_store : (s.slewEnd).store = s.store := by
  unfold State.slewEnd
  split <;> simp

@[simp] theorem State.slewEnd_relay : (s.slewEnd).relay = s.relay := by
  unfold State.slewEnd
  split <;> simp

@[simp] theorem State.slewEnd_ports : (s.slewEnd).ports = s.ports := by
  unfold State.slewEnd
  split <;> simp

@[simp] theorem State.slewEnd_supplies : (s.slewEnd).supplies = s.supplies := by
  unfold State.slewEnd
  split <;> simp

@[simp] theorem State.slewEnd_resetLow : (s.slewEnd).resetLow = s.resetLow := by
  unfold State.slewEnd
  split <;> simp

@[simp] theorem State.slewEnd_pending : (s.slewEnd).pending = s.pending := by
  unfold State.slewEnd
  split <;> simp

@[simp] theorem State.pauseEnd_lanes : (s.pauseEnd).lanes = s.lanes := by
  unfold State.pauseEnd
  dsimp only
  split <;> simp

@[simp] theorem State.pauseEnd_arbiter : (s.pauseEnd).arbiter = s.arbiter := by
  unfold State.pauseEnd
  dsimp only
  split <;> simp

@[simp] theorem State.pauseEnd_store : (s.pauseEnd).store = s.store := by
  unfold State.pauseEnd
  dsimp only
  split <;> simp

@[simp] theorem State.pauseEnd_relay : (s.pauseEnd).relay = s.relay := by
  unfold State.pauseEnd
  dsimp only
  split <;> simp

@[simp] theorem State.pauseEnd_ports : (s.pauseEnd).ports = s.ports := by
  unfold State.pauseEnd
  dsimp only
  split <;> simp

@[simp] theorem State.pauseEnd_supplies : (s.pauseEnd).supplies = s.supplies := by
  unfold State.pauseEnd
  dsimp only
  split <;> simp

@[simp] theorem State.pauseEnd_resetLow : (s.pauseEnd).resetLow = s.resetLow := by
  unfold State.pauseEnd
  dsimp only
  split <;> simp

@[simp] theorem State.pauseEnd_pending : (s.pauseEnd).pending = s.pending := by
  unfold State.pauseEnd
  dsimp only
  split <;> simp

@[simp] theorem State.timeArrival_lanes (a : Arrival) : (s.timeArrival a).lanes = s.lanes := by
  unfold State.timeArrival
  repeat' split
  all_goals simp

@[simp] theorem State.timeArrival_arbiter (a : Arrival) : (s.timeArrival a).arbiter = s.arbiter := by
  unfold State.timeArrival
  repeat' split
  all_goals simp

@[simp] theorem State.timeArrival_table (a : Arrival) : (s.timeArrival a).table = s.table := by
  unfold State.timeArrival
  repeat' split
  all_goals simp

@[simp] theorem State.timeArrival_supervisor (a : Arrival) : (s.timeArrival a).supervisor = s.supervisor := by
  unfold State.timeArrival
  repeat' split
  all_goals simp

@[simp] theorem State.timeArrival_store (a : Arrival) : (s.timeArrival a).store = s.store := by
  unfold State.timeArrival
  repeat' split
  all_goals simp

@[simp] theorem State.timeArrival_relay (a : Arrival) : (s.timeArrival a).relay = s.relay := by
  unfold State.timeArrival
  repeat' split
  all_goals simp

@[simp] theorem State.timeArrival_ports (a : Arrival) : (s.timeArrival a).ports = s.ports := by
  unfold State.timeArrival
  repeat' split
  all_goals simp

@[simp] theorem State.timeArrival_supplies (a : Arrival) : (s.timeArrival a).supplies = s.supplies := by
  unfold State.timeArrival
  repeat' split
  all_goals simp

@[simp] theorem State.timeArrival_resetLow (a : Arrival) : (s.timeArrival a).resetLow = s.resetLow := by
  unfold State.timeArrival
  repeat' split
  all_goals simp

@[simp] theorem State.timeArrival_pending (a : Arrival) : (s.timeArrival a).pending = s.pending := by
  unfold State.timeArrival
  repeat' split
  all_goals simp

@[simp] theorem State.timeEvent_lanes (e : LineEvent) : (s.timeEvent e).lanes = s.lanes := by
  simp [State.timeEvent]

@[simp] theorem State.timeEvent_arbiter (e : LineEvent) : (s.timeEvent e).arbiter = s.arbiter := by
  simp [State.timeEvent]

@[simp] theorem State.timeEvent_table (e : LineEvent) : (s.timeEvent e).table = s.table := by
  simp [State.timeEvent]

@[simp] theorem State.timeEvent_supervisor (e : LineEvent) : (s.timeEvent e).supervisor = s.supervisor := by
  simp [State.timeEvent]

@[simp] theorem State.timeEvent_store (e : LineEvent) : (s.timeEvent e).store = s.store := by
  simp [State.timeEvent]

@[simp] theorem State.timeEvent_relay (e : LineEvent) : (s.timeEvent e).relay = s.relay := by
  simp [State.timeEvent]

@[simp] theorem State.timeEvent_ports (e : LineEvent) : (s.timeEvent e).ports = s.ports := by
  simp [State.timeEvent]

@[simp] theorem State.timeEvent_supplies (e : LineEvent) : (s.timeEvent e).supplies = s.supplies := by
  simp [State.timeEvent]

@[simp] theorem State.timeEvent_resetLow (e : LineEvent) : (s.timeEvent e).resetLow = s.resetLow := by
  simp [State.timeEvent]

@[simp] theorem State.timeEvent_pending (e : LineEvent) : (s.timeEvent e).pending = s.pending := by
  simp [State.timeEvent]

/-! ### The lines -/

@[simp] theorem State.laneLine_timebase (l : LaneId) (line : List LineEvent) : (s.laneLine l line).timebase = s.timebase :=
  foldl_keeps State.timebase _ (fun _ _ => by simp) _ _

@[simp] theorem State.laneLine_arbiter (l : LaneId) (line : List LineEvent) : (s.laneLine l line).arbiter = s.arbiter :=
  foldl_keeps State.arbiter _ (fun _ _ => by simp) _ _

@[simp] theorem State.laneLine_table (l : LaneId) (line : List LineEvent) : (s.laneLine l line).table = s.table :=
  foldl_keeps State.table _ (fun _ _ => by simp) _ _

@[simp] theorem State.laneLine_supervisor (l : LaneId) (line : List LineEvent) : (s.laneLine l line).supervisor = s.supervisor :=
  foldl_keeps State.supervisor _ (fun _ _ => by simp) _ _

@[simp] theorem State.laneLine_store (l : LaneId) (line : List LineEvent) : (s.laneLine l line).store = s.store :=
  foldl_keeps State.store _ (fun _ _ => by simp) _ _

@[simp] theorem State.laneLine_relay (l : LaneId) (line : List LineEvent) : (s.laneLine l line).relay = s.relay :=
  foldl_keeps State.relay _ (fun _ _ => by simp) _ _

@[simp] theorem State.laneLine_supplies (l : LaneId) (line : List LineEvent) : (s.laneLine l line).supplies = s.supplies :=
  foldl_keeps State.supplies _ (fun _ _ => by simp) _ _

@[simp] theorem State.laneLine_resetLow (l : LaneId) (line : List LineEvent) : (s.laneLine l line).resetLow = s.resetLow :=
  foldl_keeps State.resetLow _ (fun _ _ => by simp) _ _

@[simp] theorem State.laneLine_pending (l : LaneId) (line : List LineEvent) : (s.laneLine l line).pending = s.pending :=
  foldl_keeps State.pending _ (fun _ _ => by simp) _ _

@[simp] theorem State.timeLine_lanes (line : List LineEvent) : (s.timeLine line).lanes = s.lanes :=
  foldl_keeps State.lanes _ (fun _ _ => by simp) _ _

@[simp] theorem State.timeLine_arbiter (line : List LineEvent) : (s.timeLine line).arbiter = s.arbiter :=
  foldl_keeps State.arbiter _ (fun _ _ => by simp) _ _

@[simp] theorem State.timeLine_table (line : List LineEvent) : (s.timeLine line).table = s.table :=
  foldl_keeps State.table _ (fun _ _ => by simp) _ _

@[simp] theorem State.timeLine_supervisor (line : List LineEvent) : (s.timeLine line).supervisor = s.supervisor :=
  foldl_keeps State.supervisor _ (fun _ _ => by simp) _ _

@[simp] theorem State.timeLine_store (line : List LineEvent) : (s.timeLine line).store = s.store :=
  foldl_keeps State.store _ (fun _ _ => by simp) _ _

@[simp] theorem State.timeLine_relay (line : List LineEvent) : (s.timeLine line).relay = s.relay :=
  foldl_keeps State.relay _ (fun _ _ => by simp) _ _

@[simp] theorem State.timeLine_ports (line : List LineEvent) : (s.timeLine line).ports = s.ports :=
  foldl_keeps State.ports _ (fun _ _ => by simp) _ _

@[simp] theorem State.timeLine_supplies (line : List LineEvent) : (s.timeLine line).supplies = s.supplies :=
  foldl_keeps State.supplies _ (fun _ _ => by simp) _ _

@[simp] theorem State.timeLine_resetLow (line : List LineEvent) : (s.timeLine line).resetLow = s.resetLow :=
  foldl_keeps State.resetLow _ (fun _ _ => by simp) _ _

@[simp] theorem State.timeLine_pending (line : List LineEvent) : (s.timeLine line).pending = s.pending :=
  foldl_keeps State.pending _ (fun _ _ => by simp) _ _

end Sys2Proof.Machine
end

