-- ==== Sys2Proof/Laws/PerInstr.lean ====
section
/-! SUPPORT. Statements for every command, one lemma per command: the payload of a request has the length its code calls
for (R188, R189). -/

namespace Sys2Proof.Laws

open Sys2Proof.Machine

/-- A well-formed request is sent with a payload of the length its request code calls for (R188). -/
def RequestPayload.Statement (i : Instr) : Prop :=
  i.WellFormed = true → ∀ f, encodeRequest i = some f → lengthFits f.2.2.1 f.2.2.2.length = true

/-- A command with no frame form has nothing to show. -/
theorem requestPayload_none {i : Instr} (h : encodeRequest i = none) : RequestPayload.Statement i := by
  intro _ f hf
  rw [h] at hf
  cases hf

/-- A request whose payload fits. -/
theorem requestPayload_some {i : Instr} {p : PortId} {tag code : Byte} {payload : List Byte}
    (h : encodeRequest i = some (p, tag, code, payload)) (fits : lengthFits code payload.length = true) :
    RequestPayload.Statement i := by
  intro _ f hf
  rw [h] at hf
  cases hf
  exact fits

theorem RequestPayload.powerOn :
    RequestPayload.Statement .powerOn := requestPayload_none rfl

theorem RequestPayload.resetLine :
    RequestPayload.Statement .resetLine := requestPayload_none rfl

theorem RequestPayload.resetLineRelease :
    RequestPayload.Statement .resetLineRelease := requestPayload_none rfl

theorem RequestPayload.timeMessage (line : List LineEvent) :
    RequestPayload.Statement (.timeMessage line) := requestPayload_none rfl

theorem RequestPayload.ppsEdge :
    RequestPayload.Statement .ppsEdge := requestPayload_none rfl

theorem RequestPayload.ppsLossTimerExpiry :
    RequestPayload.Statement .ppsLossTimerExpiry := requestPayload_none rfl

theorem RequestPayload.holdoverLimitExpiry :
    RequestPayload.Statement .holdoverLimitExpiry := requestPayload_none rfl

theorem RequestPayload.slewEnd :
    RequestPayload.Statement .slewEnd := requestPayload_none rfl

theorem RequestPayload.pauseEnd :
    RequestPayload.Statement .pauseEnd := requestPayload_none rfl

theorem RequestPayload.secondBoundary :
    RequestPayload.Statement .secondBoundary := requestPayload_none rfl

theorem RequestPayload.epochBoundary :
    RequestPayload.Statement .epochBoundary := requestPayload_none rfl

theorem RequestPayload.fastDeadlineExpiry (e : EpochKey) :
    RequestPayload.Statement (.fastDeadlineExpiry e) := requestPayload_none rfl

theorem RequestPayload.fullDeadlineExpiry (e : EpochKey) :
    RequestPayload.Statement (.fullDeadlineExpiry e) := requestPayload_none rfl

theorem RequestPayload.drainingEnd :
    RequestPayload.Statement .drainingEnd := requestPayload_none rfl

theorem RequestPayload.laneFrameArrival (l : LaneId) (line : List LineEvent) :
    RequestPayload.Statement (.laneFrameArrival l line) := requestPayload_none rfl

theorem RequestPayload.laneSilenceTimerExpiry (l : LaneId) :
    RequestPayload.Statement (.laneSilenceTimerExpiry l) := requestPayload_none rfl

theorem RequestPayload.commandFrameSent (l : LaneId) :
    RequestPayload.Statement (.commandFrameSent l) := requestPayload_none rfl

theorem RequestPayload.arbiterTake :
    RequestPayload.Statement .arbiterTake := requestPayload_none rfl

theorem RequestPayload.tableTakeRecord :
    RequestPayload.Statement .tableTakeRecord := requestPayload_none rfl

theorem RequestPayload.commandTimeout (i : StreamId) :
    RequestPayload.Statement (.commandTimeout i) := requestPayload_none rfl

theorem RequestPayload.streamSilenceTimerExpiry (i : StreamId) :
    RequestPayload.Statement (.streamSilenceTimerExpiry i) := requestPayload_none rfl

theorem RequestPayload.quietTimerExpiry (i : StreamId) :
    RequestPayload.Statement (.quietTimerExpiry i) := requestPayload_none rfl

theorem RequestPayload.claimTimerExpiry :
    RequestPayload.Statement .claimTimerExpiry := requestPayload_none rfl

theorem RequestPayload.requestFrameArrival (p : PortId) (line : List LineEvent) :
    RequestPayload.Statement (.requestFrameArrival p line) := requestPayload_none rfl

theorem RequestPayload.responseSent (p : PortId) :
    RequestPayload.Statement (.responseSent p) := requestPayload_none rfl

theorem RequestPayload.status (p : PortId) (tag : Byte) :
    RequestPayload.Statement (.status p tag) := requestPayload_some rfl rfl

theorem RequestPayload.readConditions (p : PortId) (tag : Byte) :
    RequestPayload.Statement (.readConditions p tag) := requestPayload_some rfl rfl

theorem RequestPayload.setMask (p : PortId) (tag : Byte) (count : Byte) (kinds : List Byte) :
    RequestPayload.Statement (.setMask p tag count kinds) := by
  intro h f hf
  simp [Instr.WellFormed] at h
  cases hf
  simp [lengthFits, h]

theorem RequestPayload.subscribe (p : PortId) (tag : Byte) (kinds start count : Byte) (indices : List Byte) :
    RequestPayload.Statement (.subscribe p tag kinds start count indices) := by
  intro h f hf
  simp [Instr.WellFormed] at h
  cases hf
  simp [lengthFits, h]

theorem RequestPayload.readSnapshotNext (p : PortId) (tag : Byte) (kind : Byte) (unused : BitVec 48) :
    RequestPayload.Statement (.readSnapshotNext p tag kind unused) := requestPayload_some rfl (by simp [lengthFits])

theorem RequestPayload.readSnapshotSequence (p : PortId) (tag : Byte) (kind target : Byte) (seq : BitVec 48) :
    RequestPayload.Statement (.readSnapshotSequence p tag kind target seq) := requestPayload_some rfl (by simp [lengthFits])

theorem RequestPayload.readRosterState (p : PortId) (tag : Byte) :
    RequestPayload.Statement (.readRosterState p tag) := requestPayload_some rfl rfl

theorem RequestPayload.readStreamDetail (p : PortId) (tag : Byte) (index : Byte) :
    RequestPayload.Statement (.readStreamDetail p tag index) := requestPayload_some rfl rfl

theorem RequestPayload.readWorstLatency (p : PortId) (tag : Byte) :
    RequestPayload.Statement (.readWorstLatency p tag) := requestPayload_some rfl rfl

theorem RequestPayload.readLanes (p : PortId) (tag : Byte) :
    RequestPayload.Statement (.readLanes p tag) := requestPayload_some rfl rfl

theorem RequestPayload.profileCursor (p : PortId) (tag : Byte) (selector : Byte) (address : BitVec 16) (mode : Byte) :
    RequestPayload.Statement (.profileCursor p tag selector address mode) := requestPayload_some rfl (by simp [lengthFits])

theorem RequestPayload.profileGet (p : PortId) (tag : Byte) (count : Byte) :
    RequestPayload.Statement (.profileGet p tag count) := requestPayload_some rfl rfl

theorem RequestPayload.profilePut (p : PortId) (tag : Byte) (values : List Word) :
    RequestPayload.Statement (.profilePut p tag values) := by
  intro h f hf
  simp [Instr.WellFormed] at h
  cases hf
  simp [lengthFits, List.length_flatMap]
  omega

theorem RequestPayload.beginEdit (p : PortId) (tag : Byte) :
    RequestPayload.Statement (.beginEdit p tag) := requestPayload_some rfl rfl

theorem RequestPayload.abandonEdit (p : PortId) (tag : Byte) :
    RequestPayload.Statement (.abandonEdit p tag) := requestPayload_some rfl rfl

theorem RequestPayload.commitSwitchAtSecond (p : PortId) (tag : Byte) (mode : Byte) (second : Word) :
    RequestPayload.Statement (.commitSwitchAtSecond p tag mode second) := requestPayload_some rfl (by simp [lengthFits])

theorem RequestPayload.commitSwitchNow (p : PortId) (tag : Byte) (ignored : Word) :
    RequestPayload.Statement (.commitSwitchNow p tag ignored) := requestPayload_some rfl (by simp [lengthFits])

theorem RequestPayload.cancelSwitch (p : PortId) (tag : Byte) :
    RequestPayload.Statement (.cancelSwitch p tag) := requestPayload_some rfl rfl

theorem RequestPayload.streamCommand (p : PortId) (tag : Byte) (index action : Byte) :
    RequestPayload.Statement (.streamCommand p tag index action) := requestPayload_some rfl rfl

theorem RequestPayload.releaseStream (p : PortId) (tag : Byte) (index : Byte) :
    RequestPayload.Statement (.releaseStream p tag index) := requestPayload_some rfl rfl

theorem RequestPayload.acceptReference (p : PortId) (tag : Byte) :
    RequestPayload.Statement (.acceptReference p tag) := requestPayload_some rfl rfl

theorem RequestPayload.clearAlignment (p : PortId) (tag : Byte) :
    RequestPayload.Statement (.clearAlignment p tag) := requestPayload_some rfl rfl

theorem RequestPayload.portReset (p : PortId) (tag : Byte) :
    RequestPayload.Statement (.portReset p tag) := requestPayload_some rfl rfl

theorem RequestPayload.supplyBelowLimit :
    RequestPayload.Statement .supplyBelowLimit := requestPayload_none rfl

theorem RequestPayload.powerOnExit :
    RequestPayload.Statement .powerOnExit := requestPayload_none rfl

end Sys2Proof.Laws
end

