-- ==== Sys2Proof/Laws/Profiles.lean ====
section
/-! SUPPORT. Addresses, runs of items and the governing bank, said once (R115, R116, R119, R120). -/

namespace Sys2Proof.Machine

/-- Two addresses of one item are one address. -/
theorem itemPlace_inj {a b : Nat} {w : ItemPlace} (ha : itemPlace a = some w) (hb : itemPlace b = some w) : a = b := by
  unfold itemPlace at ha hb
  split at ha <;> split at hb
  · cases ha
    cases hb
    rfl
  · split at hb
    · cases ha
      cases hb
    · cases hb
  · split at ha
    · cases ha
      cases hb
    · cases ha
  · split at ha
    next hx =>
      split at hb
      next hy =>
        cases ha
        simp only [Option.some.injEq, ItemPlace.stream.injEq, Fin.mk.injEq] at hb
        omega
      next => cases hb
    next => cases ha

/-- A written item reads as the value written. -/
@[simp] theorem Bank.read_write (b : Bank) (v : Word) (w : ItemPlace) : (b.write v w).read w = v := by
  cases w <;> simp [Bank.read, Bank.write]

/-- A write leaves every other item. -/
theorem Bank.read_write_ne (b : Bank) (v : Word) {w x : ItemPlace} (h : x ≠ w) : (b.write v w).read x = b.read x := by
  cases w with
  | global k =>
    cases x with
    | global j =>
      have e : k.val ≠ j.val := fun e => h (by rw [Fin.ext e])
      simp [Bank.read, Bank.write, Vector.getElem_set_ne _ _ e]
    | stream i j => rfl
  | stream i k =>
    cases x with
    | global j => rfl
    | stream m j =>
      by_cases e : i.val = m.val
      · have e' : i = m := Fin.ext e
        subst e'
        have hk : k.val ≠ j.val := fun e => h (by rw [Fin.ext e])
        simp [Bank.read, Bank.write, Vector.getElem_set_ne _ _ hk]
      · simp [Bank.read, Bank.write, Vector.getElem_set_ne _ _ e]

/-- A run is read when each of its addresses is defined, and each value is that of its item (R119). -/
theorem Bank.readRun_spec (b : Bank) (n : Nat) : ∀ a, (∀ k, k < n → (itemPlace (a + k)).isSome = true) →
    ∃ vs, b.readRun a n = some vs ∧ vs.length = n ∧
      ∀ k w, k < n → itemPlace (a + k) = some w → vs[k]? = some (b.read w) := by
  induction n with
  | zero => exact fun a _ => ⟨[], rfl, rfl, by simp⟩
  | succ n ih =>
    intro a h
    obtain ⟨vs, h1, h2, h3⟩ := ih (a + 1) fun k hk => by
      have := h (k + 1) (by omega)
      rwa [show a + (k + 1) = a + 1 + k by omega] at this
    obtain ⟨w0, hw0⟩ := Option.isSome_iff_exists.mp (h 0 (by omega))
    rw [Nat.add_zero] at hw0
    refine ⟨b.read w0 :: vs, by simp [Bank.readRun, hw0, h1], by simp [h2], fun k w hk hw => ?_⟩
    cases k with
    | zero =>
      rw [Nat.add_zero, hw0] at hw
      cases hw
      rfl
    | succ k =>
      rw [show a + (k + 1) = a + 1 + k by omega] at hw
      simpa using h3 k w (by omega) hw

/-- A run with an undefined address is not read (R119). -/
theorem Bank.readRun_none (b : Bank) (n : Nat) : ∀ a, (∃ k, k < n ∧ itemPlace (a + k) = none) → b.readRun a n = none := by
  induction n with
  | zero =>
    rintro a ⟨k, hk, -⟩
    omega
  | succ n ih =>
    rintro a ⟨k, hk, h⟩
    cases k with
    | zero =>
      rw [Nat.add_zero] at h
      simp [Bank.readRun, h]
    | succ k =>
      rw [show a + (k + 1) = a + 1 + k by omega] at h
      have := ih (a + 1) ⟨k, by omega, h⟩
      simp [Bank.readRun, this]

/-- A run is stored when each of its addresses is defined: each value stands at its item, and every item outside the run
is as it was (R120). -/
theorem Bank.writeRun_spec (vs : List Word) : ∀ (b : Bank) a, (∀ k, k < vs.length → (itemPlace (a + k)).isSome = true) →
    ∃ b', b.writeRun a vs = some b' ∧
      (∀ k w v, itemPlace (a + k) = some w → vs[k]? = some v → b'.read w = v) ∧
      ∀ x w, itemPlace x = some w → (x < a ∨ a + vs.length ≤ x) → b'.read w = b.read w := by
  induction vs with
  | nil => exact fun b a _ => ⟨b, rfl, by simp, by simp⟩
  | cons v0 vs ih =>
    intro b a h
    obtain ⟨w0, hw0⟩ := Option.isSome_iff_exists.mp (h 0 (by simp))
    rw [Nat.add_zero] at hw0
    obtain ⟨b', h1, h2, h3⟩ := ih (b.write v0 w0) (a + 1) fun k hk => by
      have := h (k + 1) (by simpa using hk)
      rwa [show a + (k + 1) = a + 1 + k by omega] at this
    refine ⟨b', by simp [Bank.writeRun, hw0, h1], fun k w v hw hv => ?_, fun x w hw hx => ?_⟩
    · cases k with
      | zero =>
        rw [Nat.add_zero, hw0] at hw
        cases hw
        cases hv
        rw [h3 a w0 hw0 (by omega), Bank.read_write]
      | succ k =>
        rw [show a + (k + 1) = a + 1 + k by omega] at hw
        exact h2 k w v hw (by simpa using hv)
    · rw [List.length_cons] at hx
      rw [h3 x w hw (by omega), Bank.read_write_ne]
      intro e
      subst e
      have := itemPlace_inj hw hw0
      omega

/-- A run with an undefined address is not stored (R120). -/
theorem Bank.writeRun_none (vs : List Word) : ∀ (b : Bank) a, (∃ k, k < vs.length ∧ itemPlace (a + k) = none) →
    b.writeRun a vs = none := by
  induction vs with
  | nil =>
    rintro b a ⟨k, hk, -⟩
    simp at hk
  | cons v0 vs ih =>
    rintro b a ⟨k, hk, h⟩
    rw [Bank.writeRun]
    split
    next w hw =>
      cases k with
      | zero =>
        rw [Nat.add_zero, hw] at h
        cases h
      | succ k =>
        rw [show a + (k + 1) = a + 1 + k by omega] at h
        exact ih _ _ ⟨k, by simpa using hk, h⟩
    next => rfl

/-- With no switch pending and none draining, the active bank governs every second (R115). -/
theorem ProfileStore.governing_active (ps : ProfileStore) (x : Nat) (a : BankId) (h : ps.active = some a)
    (hp : ps.pendingSwitch = none) (hd : ps.draining = none) : ps.governing x = some (a, ps.generation) := by
  simp [ProfileStore.governing, h, hp, hd]

/-- With no active bank, no bank governs (R115). -/
theorem ProfileStore.governing_none (ps : ProfileStore) (x : Nat) (h : ps.active = none) : ps.governing x = none := by
  simp [ProfileStore.governing, h]

/-- A bank governs every second while one is active (R115). -/
theorem ProfileStore.governing_isSome (ps : ProfileStore) (x : Nat) : (ps.governing x).isSome = ps.active.isSome := by
  unfold ProfileStore.governing
  repeat' split
  all_goals simp [*]

/-- A bank other than the standby bank keeps its contents when the standby bank is replaced (R120). -/
theorem State.setStandby_bank (s : State) (b : Bank) (c : BankId) :
    (s.setStandby b).store.bank c = if c = s.store.standby then b else s.store.bank c := by
  simp [State.setStandby, ProfileStore.bank, update_get]

end Sys2Proof.Machine
end

