-- ==== Sys2Proof/Laws/Receivers.lean ====
section
/-! SUPPORT. The receivers over a whole frame: the bytes before the last are gathered without an arrival, and the last
one completes the frame. -/

namespace Sys2Proof.Machine

/-! ### Gaps of elapsed time -/

@[simp] theorem Rx.gapPast_hunting (limit now : Nat) : Rx.hunting.gapPast limit now = false := rfl

@[simp] theorem Rx.gapPast_receiving (got : List Byte) (last limit now : Nat) :
    (Rx.receiving got last).gapPast limit now = decide (limit < now - last) := rfl

/-- A hunting receiver sees the line as it is. -/
@[simp] theorem Rx.sees_hunting (limit now : Nat) (line : List LineEvent) : Rx.hunting.sees limit now line = line := rfl

/-- All that a gathering receiver can see of a line: a gap and the line, or the line alone. -/
theorem Rx.sees_receiving (got : List Byte) (last limit now : Nat) (line : List LineEvent) :
    (Rx.receiving got last).sees limit now line = if limit < now - last then .longGap :: line else line := by
  simp [Rx.sees]

/-- A gap of elapsed time hands a lane's broken-off frame over to the discard. -/
theorem State.laneLine_gap (s : State) (l : LaneId) (got : List Byte) (last : Nat) (h : s.lanes[l].rx = .receiving got last)
    (past : laneGapTime < s.timebase.elapsed - last) :
    s.laneLine l [] = (s.updLane l fun q => { q with rx := .hunting }).discardLaneFrame l := by
  rw [State.laneLine, h, Rx.sees_receiving, if_pos past]
  simp only [List.foldl_cons, List.foldl_nil]
  rw [State.laneEvent, h]
  rfl

/-- A gap of elapsed time hands a port's broken-off frame over to the discard. -/
theorem Port.line_gap (p : PortId) (now : Nat) (q : Port) (got : List Byte) (last : Nat) (h : q.rx = .receiving got last)
    (past : requestGapTime < now - last) : Port.line p now [] q = { q with rx := .hunting }.discard := by
  rw [Port.line, h, Rx.sees_receiving, if_pos past]
  simp only [List.foldl_cons, List.foldl_nil]
  rw [Port.lineEvent, h]
  rfl

/-- A gap of elapsed time breaks off the time message without a trace. -/
theorem State.timeLine_gap (s : State) (got : List Byte) (last : Nat) (h : s.timebase.rx = .receiving got last)
    (past : timeGapTime < s.timebase.elapsed - last) :
    s.timeLine [] = { s with timebase := { s.timebase with rx := .hunting } } := by
  rw [State.timeLine, h, Rx.sees_receiving, if_pos past]
  simp only [List.foldl_cons, List.foldl_nil]
  rw [State.timeEvent, h]
  rfl

/-- A lane frame of a length the line allows: its bytes after the start byte. -/
def laneBody (frameType : Byte) (payload check : List Byte) : List Byte :=
  frameType :: BitVec.ofNat 8 payload.length :: payload ++ check

theorem laneGather_short (now : Nat) (frameType len : Byte) (rest : List Byte) (h : len.toNat ≤ 106)
    (hr : rest.length < len.toNat + 4) :
    laneGather now (frameType :: len :: rest) = (.receiving (frameType :: len :: rest) now, .nothing) := by
  have h1 : ¬ lanePayloadLimit < len.toNat := by simp [lanePayloadLimit]; omega
  have h2 : ¬ rest.length = len.toNat + 4 := by omega
  simp [laneGather, h1, h2]

theorem laneGather_whole (now : Nat) (frameType len : Byte) (rest : List Byte) (h : len.toNat ≤ 106)
    (hr : rest.length = len.toNat + 4) :
    laneGather now (frameType :: len :: rest) = (.hunting, .whole (frameType :: len :: rest)) := by
  have h1 : ¬ lanePayloadLimit < len.toNat := by simp [lanePayloadLimit]; omega
  simp [laneGather, h1, hr]

theorem requestGather_short (now : Nat) (tag code hi lo : Byte) (rest : List Byte) (h : valueOf [hi, lo] ≤ 8192)
    (hr : rest.length < valueOf [hi, lo] + 2) :
    requestGather now (tag :: code :: hi :: lo :: rest) = (.receiving (tag :: code :: hi :: lo :: rest) now, .nothing) := by
  have h1 : ¬ requestPayloadLimit < valueOf [hi, lo] := by simp [requestPayloadLimit]; omega
  have h2 : ¬ rest.length = valueOf [hi, lo] + 2 := by omega
  simp [requestGather, h1, h2]

theorem requestGather_whole (now : Nat) (tag code hi lo : Byte) (rest : List Byte) (h : valueOf [hi, lo] ≤ 8192)
    (hr : rest.length = valueOf [hi, lo] + 2) :
    requestGather now (tag :: code :: hi :: lo :: rest) = (.hunting, .whole (tag :: code :: hi :: lo :: rest)) := by
  have h1 : ¬ requestPayloadLimit < valueOf [hi, lo] := by simp [requestPayloadLimit]; omega
  simp [requestGather, h1, hr]

/-- A state of a receiver driven by events, when each byte but the last of a run is gathered in silence. -/
theorem foldl_gather {σ : Type} (f : σ → LineEvent → σ) (at_ : List Byte → σ) (done : σ) (got tail : List Byte)
    (last : Byte)
    (quiet : ∀ mid b rest, tail = mid ++ b :: rest → f (at_ (got ++ mid)) (.byte b) = at_ (got ++ mid ++ [b]))
    (ends : f (at_ (got ++ tail)) (.byte last) = done) :
    ((tail ++ [last]).map LineEvent.byte).foldl f (at_ got) = done := by
  induction tail generalizing got with
  | nil => simpa using ends
  | cons b tail ih =>
    simp only [List.cons_append, List.map_cons, List.foldl_cons]
    have q := quiet [] b tail rfl
    simp only [List.append_nil] at q
    rw [q]
    apply ih
    · intro mid b' rest h
      have := quiet (b :: mid) b' rest (by simp [h])
      simpa using this
    · simpa using ends

end Sys2Proof.Machine
end

