-- ==== Sys2Proof/Laws/Requests.lean ====
section
/-! SUPPORT. What a request command does at its port, said once: taken while IDLE, answered BUSY while EXECUTING (R149,
R150). -/

namespace Sys2Proof.Machine

theorem State.whileOperating_on {s : State} (h : s.operating = true) (f : State → State) : s.whileOperating f = f s := by
  simp [State.whileOperating, h]

theorem State.whileOperating_off {s : State} (h : s.operating = false) (f : State → State) : s.whileOperating f = s := by
  simp [State.whileOperating, h]

/-- The response of a request taken in hand leaves its port answered. -/
theorem Port.respond_takeInHand (c : Instr) (tag : Byte) (r : Reply) (q : Port) :
    Port.respond tag r (Port.takeInHand c q) = answered tag r.code r.result q := rfl

/-- A request command at an IDLE port: the handler takes it and its owner answers it. -/
theorem serveStep_idle {s : State} {p : PortId} (h : Serves s p) (c : Instr) (tag : Byte)
    (owner : State → State × Reply) :
    serveStep c p tag owner s = .next ((s.updPort p (Port.takeInHand c)).answer p tag owner) := by
  have hi : s.ports[p.val].handler = .idle := h.2
  simp [serveStep, State.whileOperating_on h.1, State.serve, hi]

/-- A request command that is in hand at its port: its owner answers it. -/
theorem serveStep_inHand {s : State} {p : PortId} (ho : s.operating = true) (c : Instr)
    (h : s.ports[p].handler = .inHand c) (tag : Byte) (owner : State → State × Reply) :
    serveStep c p tag owner s = .next (s.answer p tag owner) := by
  have hi : s.ports[p.val].handler = .inHand c := h
  simp [serveStep, State.whileOperating_on ho, State.serve, hi]

/-- What the answer of an owner leaves at the ports, when the owner leaves port `p` with `f` done to it. -/
theorem State.answer_answered {s u : State} {p : PortId} {c : Instr} {tag : Byte} {owner : State → State × Reply}
    {r : Reply} {q : Port} (ho : owner (s.updPort p (Port.takeInHand c)) = (u, r))
    (hp : u.ports[p] = Port.takeInHand c q) (hq : ∀ i : PortId, i ≠ p → u.ports[i] = s.ports[i]) :
    AnsweredAt p tag r.code r.result q s ((s.updPort p (Port.takeInHand c)).answer p tag owner) := by
  refine ⟨?_, fun i hi => ?_⟩
  · have hp' : u.ports[p.val] = Port.takeInHand c q := hp
    simp [State.answer, ho, hp', Port.respond_takeInHand]
  · have hq' : u.ports[i.val] = s.ports[i.val] := hq i hi
    simp [State.answer, ho, hi, hq']

/-- A request whose owner changes nothing: its port is answered, and nothing else changes. -/
theorem serveStep_readOnly {s : State} {p : PortId} (h : Serves s p) (c : Instr) (tag : Byte)
    (owner : State → State × Reply) (r : Reply)
    (ho : owner (s.updPort p (Port.takeInHand c)) = (s.updPort p (Port.takeInHand c), r)) :
    ∃ t, serveStep c p tag owner s = .next t ∧ t = { s with ports := t.ports } ∧
      AnsweredAt p tag r.code r.result s.ports[p] s t := by
  refine ⟨_, serveStep_idle h c tag owner, ?_, State.answer_answered ho (by simp) (fun i hi => by simp [hi])⟩
  rw [State.answer, ho]
  rfl

/-- A request refused without an effect. -/
theorem serveStep_refuses {s : State} {p : PortId} (h : Serves s p) (c : Instr) (tag : Byte)
    (owner : State → State × Reply) (code : Code)
    (ho : owner (s.updPort p (Port.takeInHand c)) = (s.updPort p (Port.takeInHand c), .bare code)) :
    ∃ t, serveStep c p tag owner s = .next t ∧ Refuses p tag code s t := by
  obtain ⟨t, h1, h2, h3⟩ := serveStep_readOnly h c tag owner _ ho
  exact ⟨t, h1, h2, h3⟩

end Sys2Proof.Machine
end

