-- ==== Sys2Proof/Laws/Table.lean ====
section
/-! SUPPORT. The alignment table's shared operations, said once: finding a slot, the release pass, the presence report,
the slot an opening takes (R66, R80, R81, R82, R100). -/

namespace Sys2Proof.Machine

/-! ### Finding -/

theorem AlignTable.find_some {t : AlignTable} {e : EpochKey} {sl : Slot} (h : t.find e = some sl) :
    sl ∈ t.slots ∧ sl.key = e :=
  ⟨List.mem_of_find?_eq_some h, by simpa using List.find?_some h⟩

theorem AlignTable.find_none {t : AlignTable} {e : EpochKey} : t.find e = none ↔ ∀ sl ∈ t.slots, sl.key ≠ e := by
  simp [AlignTable.find]

/-- In slots that stand in epoch order, one key is one slot's. -/
theorem key_unique {l : List Slot} (h : l.Pairwise fun a b => EpochKey.older a.key b.key) {x y : Slot} (hx : x ∈ l)
    (hy : y ∈ l) (e : x.key = y.key) : x = y := by
  induction l with
  | nil => cases hx
  | cons z l ih =>
    rw [List.pairwise_cons] at h
    rcases List.mem_cons.mp hx with ex | hx <;> rcases List.mem_cons.mp hy with ey | hy
    · rw [ex, ey]
    · have := h.1 y hy
      rw [← ex, ← e] at this
      omega
    · have := h.1 x hx
      rw [← ey, e] at this
      omega
    · exact ih h.2 hx hy

/-- A slot of a table in epoch order is found under its key. -/
theorem AlignTable.find_mem {t : AlignTable} (h : t.slots.Pairwise fun a b => EpochKey.older a.key b.key) {sl : Slot}
    (hm : sl ∈ t.slots) : t.find sl.key = some sl := by
  cases hf : t.find sl.key with
  | none => exact absurd rfl (AlignTable.find_none.mp hf sl hm)
  | some x =>
    obtain ⟨hx, he⟩ := AlignTable.find_some hf
    rw [key_unique h hx hm he]

/-- A slot is CLOSED when it holds both cuts (R60). -/
theorem Slot.state_closed (sl : Slot) : sl.state = .closed ↔ sl.fastCut.isSome = true ∧ sl.fullCut.isSome = true := by
  unfold Slot.state
  split <;> simp [*]

theorem Slot.state_opened (sl : Slot) : sl.state = .opened ↔ sl.fastCut = none := by
  unfold Slot.state
  split <;> simp [*]

/-! ### The release pass -/

/-- What a slot keeps of itself at a fast cut stands as it stood after the first part of the pass. -/
theorem fastPass_map {β : Type} (f : Slot → β) (hf : ∀ sl c, f { sl with fastCut := c } = f sl) (l : List Slot) :
    ∀ n, (fastPass l n).1.map f = l.map f := by
  induction l with
  | nil => exact fun _ => rfl
  | cons sl l ih =>
    intro n
    unfold fastPass
    split <;> simp [ih, hf]

/-- What a slot keeps of itself at a full cut stands as it stood after the second part of the pass. -/
theorem fullPass_map {β : Type} (f : Slot → β) (hf : ∀ sl c, f { sl with fullCut := c } = f sl) (l : List Slot) :
    ∀ n, (fullPass l n).1.map f = l.map f := by
  induction l with
  | nil => exact fun _ => rfl
  | cons sl l ih =>
    intro n
    unfold fullPass
    split <;> simp [ih, hf]

/-- What a slot keeps of itself at its cuts stands as it stood after a release pass. -/
theorem AlignTable.release_map {β : Type} (t : AlignTable) (f : Slot → β)
    (hfast : ∀ sl c, f { sl with fastCut := c } = f sl) (hfull : ∀ sl c, f { sl with fullCut := c } = f sl) :
    t.release.slots.map f = t.slots.map f := by
  simp [AlignTable.release, fullPass_map f hfull, fastPass_map f hfast]

/-- A slot after the first part of the pass is a slot before it, or one with the cut its readiness gives. -/
theorem fastPass_mem (l : List Slot) : ∀ n, ∀ sl ∈ (fastPass l n).1, sl ∈ l ∨
    ∃ o ∈ l, ∃ c m, o.fastCut = none ∧ o.fastReady = some c ∧ n ≤ m ∧ sl = { o with fastCut := some ⟨c, m⟩ } := by
  induction l with
  | nil => intro n sl h; cases h
  | cons x l ih =>
    intro n sl h
    unfold fastPass at h
    split at h
    next =>
      rcases List.mem_cons.mp h with rfl | h
      · exact .inl (by simp)
      · rcases ih n sl h with h | ⟨o, ho, h⟩
        · exact .inl (by simp [h])
        · exact .inr ⟨o, by simp [ho], h⟩
    next => exact .inl h
    next c hcut hready =>
      rcases List.mem_cons.mp h with rfl | h
      · exact .inr ⟨x, by simp, c, n, hcut, hready, Nat.le_refl _, rfl⟩
      · rcases ih (n + 1) sl h with h | ⟨o, ho, c', m, h1, h2, h3, h4⟩
        · exact .inl (by simp [h])
        · exact .inr ⟨o, by simp [ho], c', m, h1, h2, by omega, h4⟩

/-- A slot after the second part of the pass is a slot before it, or one with the cut its readiness gives. -/
theorem fullPass_mem (l : List Slot) : ∀ n, ∀ sl ∈ (fullPass l n).1, sl ∈ l ∨
    ∃ o ∈ l, ∃ c m, o.fullCut = none ∧ o.fastCut.isSome = true ∧ o.fullReady = some c ∧ n ≤ m ∧
      sl = { o with fullCut := some ⟨c, m⟩ } := by
  induction l with
  | nil => intro n sl h; cases h
  | cons x l ih =>
    intro n sl h
    unfold fullPass at h
    split at h
    next =>
      rcases List.mem_cons.mp h with rfl | h
      · exact .inl (by simp)
      · rcases ih n sl h with h | ⟨o, ho, h⟩
        · exact .inl (by simp [h])
        · exact .inr ⟨o, by simp [ho], h⟩
    next c _ hcut hready hfast =>
      rcases List.mem_cons.mp h with rfl | h
      · exact .inr ⟨x, by simp, c, n, hcut, by simp [hfast], hready, Nat.le_refl _, rfl⟩
      · rcases ih (n + 1) sl h with h | ⟨o, ho, c', m, h1, h2, h3, h4, h5⟩
        · exact .inl (by simp [h])
        · exact .inr ⟨o, by simp [ho], c', m, h1, h2, h3, by omega, h5⟩
    next => exact .inl h

/-- The numbers of the fast cuts after the first part of the pass: those that stood, and the next ones in order (R80,
R83).  The slots with a fast cut stand before those without. -/
theorem fastPass_numbers (l : List Slot) (h : l.Pairwise fun a b => b.fastCut.isSome = true → a.fastCut.isSome = true) :
    ∀ n, ∃ k, (fastPass l n).2.1 = n + k ∧
      (fastPass l n).1.filterMap (fun sl => sl.fastCut.map Cut.seq) =
        l.filterMap (fun sl => sl.fastCut.map Cut.seq) ++ List.range' n k := by
  induction l with
  | nil => exact fun n => ⟨0, by simp [fastPass]⟩
  | cons x l ih =>
    intro n
    rw [List.pairwise_cons] at h
    unfold fastPass
    split
    next c hc =>
      obtain ⟨k, h1, h2⟩ := ih h.2 n
      exact ⟨k, h1, by simp [hc, h2]⟩
    next => exact ⟨0, by simp⟩
    next c hcut hready =>
      obtain ⟨k, h1, h2⟩ := ih h.2 (n + 1)
      have empty : l.filterMap (fun sl => sl.fastCut.map Cut.seq) = [] := by
        rw [List.filterMap_eq_nil_iff]
        intro y hy
        cases hf : y.fastCut with
        | none => rfl
        | some c =>
          have := h.1 y hy (by simp [hf])
          simp [hcut] at this
      refine ⟨k + 1, by rw [h1]; omega, ?_⟩
      simp [h2, hcut, empty, List.range'_succ]

/-- The numbers of the full cuts after the second part of the pass (R80, R83). -/
theorem fullPass_numbers (l : List Slot) (h : l.Pairwise fun a b => b.fullCut.isSome = true → a.fullCut.isSome = true) :
    ∀ n, ∃ k, (fullPass l n).2 = n + k ∧
      (fullPass l n).1.filterMap (fun sl => sl.fullCut.map Cut.seq) =
        l.filterMap (fun sl => sl.fullCut.map Cut.seq) ++ List.range' n k := by
  induction l with
  | nil => exact fun n => ⟨0, by simp [fullPass]⟩
  | cons x l ih =>
    intro n
    rw [List.pairwise_cons] at h
    unfold fullPass
    split
    next c _ _ hc =>
      obtain ⟨k, h1, h2⟩ := ih h.2 n
      exact ⟨k, h1, by simp [hc, h2]⟩
    next c _ hcut hready hfast =>
      obtain ⟨k, h1, h2⟩ := ih h.2 (n + 1)
      have empty : l.filterMap (fun sl => sl.fullCut.map Cut.seq) = [] := by
        rw [List.filterMap_eq_nil_iff]
        intro y hy
        cases hf : y.fullCut with
        | none => rfl
        | some c =>
          have := h.1 y hy (by simp [hf])
          simp [hcut] at this
      refine ⟨k + 1, by rw [h1]; omega, ?_⟩
      simp [h2, hcut, empty, List.range'_succ]
    next => exact ⟨0, by simp⟩

/-- A release pass lowers no next number. -/
theorem AlignTable.release_next (t : AlignTable) : t.nextFast ≤ t.release.nextFast ∧ t.nextFull ≤ t.release.nextFull := by
  have fast : ∀ l n, n ≤ (fastPass l n).2.1 := by
    intro l
    induction l with
    | nil => exact fun n => Nat.le_refl _
    | cons x l ih =>
      intro n
      unfold fastPass
      split
      · exact ih n
      · exact Nat.le_refl _
      · exact Nat.le_trans (Nat.le_succ n) (ih (n + 1))
  have full : ∀ l n, n ≤ (fullPass l n).2 := by
    intro l
    induction l with
    | nil => exact fun n => Nat.le_refl _
    | cons x l ih =>
      intro n
      unfold fullPass
      split
      · exact ih n
      · exact Nat.le_trans (Nat.le_succ n) (ih (n + 1))
      · exact Nat.le_refl _
  exact ⟨fast _ _, full _ _⟩

/-! ### Presence -/

/-- An item of a presence report changes the streaks of a stream and, between LIVE and LAGGING, its health. -/
theorem StreamRecord.presence_keeps (b : Bool) (r : StreamRecord) :
    r.presence b = { r with
      health := (r.presence b).health
      missStreak := (r.presence b).missStreak
      onTimeStreak := (r.presence b).onTimeStreak } ∧
    ((r.presence b) = r ∨ ((r.health = .live ∨ r.health = .lagging) ∧
      ((r.presence b).health = .live ∨ (r.presence b).health = .lagging))) := by
  unfold StreamRecord.presence StreamRecord.judgeLag
  cases r.health <;> cases b <;> simp <;> split <;> simp_all

/-! ### The slot an opening takes -/

/-- No slot number is free when each is taken. -/
theorem freeNumber_none {l : List Slot} : freeNumber l = none ↔ ∀ n : Fin 512, ∃ sl ∈ l, sl.number = n := by
  simp [freeNumber, allSlots]

/-- A free number is no slot's. -/
theorem freeNumber_some {l : List Slot} {n : Fin 512} (h : freeNumber l = some n) : ∀ sl ∈ l, sl.number ≠ n := by
  have := List.find?_some h
  simpa using this

/-- A CLOSED slot at the head is the one taken. -/
theorem takeClosed_head {sl : Slot} {rest : List Slot} (h : sl.state = .closed) :
    takeClosed (sl :: rest) = some (sl, rest) := by
  simp [takeClosed, h]

/-- The slot taken is CLOSED, and the others keep their order. -/
theorem takeClosed_some (l : List Slot) : ∀ r, takeClosed l = some r →
    r.1.state = .closed ∧ ∃ before, l = before ++ r.1 :: (r.2.drop before.length) ∧ r.2 = before ++ r.2.drop before.length ∧
      ∀ sl ∈ before, sl.state ≠ .closed := by
  induction l with
  | nil => intro r h; cases h
  | cons x l ih =>
    intro r h
    unfold takeClosed at h
    split at h
    next hc =>
      cases h
      exact ⟨hc, [], by simp⟩
    next hc =>
      cases hr : takeClosed l with
      | none => simp [hr] at h
      | some r' =>
        simp [hr] at h
        subst h
        obtain ⟨h1, before, h2, h3, h4⟩ := ih r' hr
        refine ⟨h1, x :: before, ?_, ?_, ?_⟩
        · simpa using h2
        · simpa using h3
        · intro sl hs
          rcases List.mem_cons.mp hs with rfl | hs
          · exact hc
          · exact h4 sl hs

end Sys2Proof.Machine
end

