-- ==== Sys2Proof/Laws/Terms.lean ====
section
/-! SUPPORT. Operations of the model said once in the terms of the statements: the profile store's three selections (R42,
R44, R67, R115), the items' addresses (R116, R117, R121), a fault at a stream (R94, R96) and the payload of a lane frame
(R24). -/

namespace Sys2Proof.Machine

theorem ProfileStore.activeStation_iff (ps : ProfileStore) (i : StreamId) (n : Nat) :
    ps.activeStation i = some n ↔ ∃ a, ps.active = some a ∧ (ps.bank a).enabled i = true ∧ (ps.bank a).station i = n := by
  cases h : ps.active with
  | none => simp [ProfileStore.activeStation, ProfileStore.activeBank, h]
  | some a => simp [ProfileStore.activeStation, ProfileStore.activeBank, h]

/-- The supervised test of the model is the one of the statements. -/
theorem ProfileStore.supervised_iff (ps : ProfileStore) (b : BankId) (i : StreamId) :
    ps.supervised b i = true ↔ Supervised ps b i := by
  simp only [ProfileStore.supervised, Bool.or_eq_true, Bool.and_eq_true, beq_iff_eq, ProfileStore.activeStation_iff, Supervised]
  refine or_congr Iff.rfl ⟨?_, ?_⟩
  · rintro ⟨hb, a, ha, on, e⟩
    exact ⟨a, ha, on, hb, e⟩
  · rintro ⟨a, ha, on, hb, e⟩
    exact ⟨hb, a, ha, on, e⟩

/-- The governing bank of the model, with its generation, is the one of the statements. -/
theorem ProfileStore.governing_iff (ps : ProfileStore) (b : BankId) (g : Generation) (x : Nat) :
    ps.governing x = some (b, g) ↔ Governs ps b g x := by
  unfold ProfileStore.governing Governs
  cases ps.active <;> cases ps.pendingSwitch <;> cases ps.draining <;> grind

/-- The placement bank of the model is the one of the statements. -/
theorem ProfileStore.placementBank_iff (ps : ProfileStore) (b : BankId) (x : Nat) :
    ps.placementBank x = some b ↔ PlacementBank ps b x := by
  unfold ProfileStore.placementBank PlacementBank
  cases ps.active <;> cases ps.pendingSwitch <;> cases ps.draining <;> cases ps.lastSwitch <;> grind

/-- The addresses that hold an item are the defined ones. -/
theorem itemPlace_isSome (a : Nat) : (itemPlace a).isSome = true ↔ Defined a := by
  unfold itemPlace Defined
  split
  · simp [*]
  · split
    · rename_i h1 h
      exact ⟨fun _ => .inr ⟨(a - 16) / 16, (a - 16) % 16, by omega⟩, fun _ => rfl⟩
    · rename_i h1 h2
      simp only [Option.isSome_none, Bool.false_eq_true, false_iff]
      rintro (h | ⟨g, k, h⟩) <;> omega

/-- The advance of a cursor lands where R121 says. -/
theorem addressAfter_lands (e : Nat) : LandsOn e (addressAfter e) := by
  unfold LandsOn addressAfter
  refine ⟨fun h => if_pos ((itemPlace_isSome _).mpr h), fun h1 h2 => ?_, fun g hg h1 h2 => ?_⟩
  · rw [if_neg (fun h => by rcases (itemPlace_isSome _).mp h with h | ⟨g, k, h⟩ <;> omega), if_pos (by omega)]
  · rw [if_neg (fun h => by rcases (itemPlace_isSome _).mp h with h | ⟨g', k, h⟩ <;> omega), if_neg (by omega)]
    omega

/-- A fault at a stream record below the fault limit. -/
theorem StreamRecord.fault_eq (now : Nat) (k : FaultKind) (r : StreamRecord) (h : r.health.judged = true → r.faultCount ≤ 3) :
    r.fault now k = faulted now k r := by
  unfold StreamRecord.fault faulted StreamRecord.atLimit StreamRecord.quarantine
  cases e : r.health <;> simp_all [Health.judged, faultLimit, quietTime, elapsedSecond] <;> split <;> simp_all <;> omega

/-- A field of one byte is that byte, and 0 past the end. -/
theorem field_one (bs : List Byte) (n : Nat) : field bs n 1 = (bs[n]?.getD 0).toNat := by
  unfold field
  rw [List.take_one, List.head?_drop]
  cases bs[n]? <;> simp [valueOf]

/-- A payload is parsed exactly when it fits its frame type. -/
theorem parsePayload_isSome (frameType : Byte) (payload : List Byte) :
    (parsePayload frameType payload).isSome = true ↔ FitsFrame frameType payload := by
  unfold parsePayload FitsFrame parseMeasurement parseAck
  simp only [field_one]
  by_cases h1 : frameType = 0x01
  · subst h1
    by_cases hl : 12 ≤ payload.length
    · rw [List.getElem?_eq_getElem (by omega : 10 < payload.length), List.getElem?_eq_getElem (by omega : 11 < payload.length)]
      simp [Option.isSome_iff_exists]
    · simp
      refine ⟨fun h => by omega, fun h => by omega⟩
  · by_cases h2 : frameType = 0x02
    · subst h2
      by_cases hl : payload.length = 4
      · rw [List.getElem?_eq_getElem (by omega : 3 < payload.length)]
        simp [hl]
        bv_omega
      · simp [hl]
    · rw [if_neg h1, if_neg h2]
      exact iff_of_false (by simp) fun h => h.elim (fun h => h1 h.1) fun h => h2 h.1

end Sys2Proof.Machine
end

