-- ==== Sys2Proof/Tests/Slice0.lean ====
section
/-! SUPPORT. Tests: what WellFormed refuses; the manual's worked figures and single commands on small states; and, for
each statement with hypotheses, a state and operands that meet them. -/

set_option Elab.async false

namespace Sys2Proof.Tests

open Sys2Proof.Machine

/-! ### WellFormed: one ill-formed command for each check -/

theorem test_illFormed_deadline_second : Instr.WellFormed (.fastDeadlineExpiry ⟨2 ^ 32, 0⟩) = false := by decide

theorem test_illFormed_deadline_index : Instr.WellFormed (.fullDeadlineExpiry ⟨0, 120⟩) = false := by decide

theorem test_illFormed_setMask : Instr.WellFormed (.setMask 0 0 0 [1, 2]) = false := by decide

theorem test_illFormed_subscribe : Instr.WellFormed (.subscribe 0 0 1 0 0 [1]) = false := by decide

theorem test_illFormed_readSequence : Instr.WellFormed (.readSnapshotSequence 0 0 0 0 5) = false := by decide

theorem test_illFormed_profilePut_none : Instr.WellFormed (.profilePut 0 0 []) = false := by decide

theorem test_illFormed_profilePut_many : Instr.WellFormed (.profilePut 0 0 (List.replicate 65 0)) = false := by decide

theorem test_illFormed_commitAtSecond : Instr.WellFormed (.commitSwitchAtSecond 0 0 0 5) = false := by decide

/-! ### Small states -/

/-- The state after a command. -/
def after (c : Instr) (s : State) : State :=
  match exec c s with
  | .next t => t
  | _ => s

/-- A bank from its global items and the groups of its first streams. -/
def bankOf (globals : List Nat) (groups : List (List Nat)) : Bank where
  globals := Vector.ofFn fun k => BitVec.ofNat 32 (globals.getD k.val 0)
  streams := Vector.ofFn fun i => Vector.ofFn fun k => BitVec.ofNat 32 ((groups.getD i.val []).getD k.val 0)

/-- The bank of section 5.10: R = 50, fast wait 40 ms, full wait 100 ms, four streams. -/
def bankA : Bank :=
  bankOf [50, 50, 40, 100, 0, 20, 60, 10, 500, 5, 14, 7]
    [[1, 100, 50, 1, 0, 1, 0], [1, 101, 50, 1, 0, 1, 0], [1, 102, 25, 0, 0, 1, 0], [1, 103, 50, 1, 0, 1, 0]]

/-- The bank of section 6.11: adaptive, margin 10 ms, fast_min 40 ms, fast_max 150 ms. -/
def bankB : Bank :=
  bankOf [50, 50, 60, 500, 1, 40, 150, 10, 500, 5, 14, 8]
    [[1, 100, 50, 1, 0, 1, 0], [1, 104, 50, 1, 0, 1, 0], [0], [0], [1, 105, 50, 0, 0, 1, 0], [1, 106, 50, 1, 0, 1, 0]]

/-- A stream record in a health, with its last lane L0 and a tracker. -/
def streamIn (h : Health) (k : Tracker) : StreamRecord :=
  { StreamRecord.unconfigured with
    health := h
    silenceTimer := if h.expected then some 600000000 else none
    lastLane := some 0
    tracker := some k }

/-- ALIGNING and LOCKED at (6000, 0), under bank A with three streams LIVE and stream 3 LAGGING. -/
def demo : State :=
  { State.reset with
    timebase :=
      { Timebase.reset with
        elapsed := 500000000
        state := .locked
        localTime := some ⟨6000, 0⟩
        lossTimer := some 600000000
        latest := some ⟨6000, true⟩
        prevSecond := some 6000
        lastSecondEvent := some 5999 }
    supervisor :=
      { Supervisor.reset with
        streams := Vector.ofFn fun i =>
          if i.val < 3 then streamIn .live ⟨56000, 41000, 80000⟩
          else if i.val = 3 then streamIn .lagging ⟨160000, 150000, 310000⟩
          else StreamRecord.unconfigured
        fastWait := ⟨40, some 0⟩ }
    store :=
      { ProfileStore.reset with
        banks := Vector.ofFn fun b => if b = 0 then bankA else bankB
        active := some 0
        standby := 1
        generation := 3 }
    table :=
      { AlignTable.reset with
        nextFast := 871, nextFull := 871, horizon := some ⟨5999, 49⟩, lastGeneration := some 3 } }

/-- A state at another local time. -/
def atTime (s : State) (t : LocalTime) : State :=
  { s with timebase := { s.timebase with localTime := some t } }

/-- The slot of epoch (6000, `k`) under bank A. -/
def slotA (k : Nat) : Slot := demo.newSlot 0 ⟨6000, k⟩ 0 3

/-- A record of a station, with one phasor. -/
def recordOf (station second fraction : Nat) : Record where
  station := BitVec.ofNat 16 station
  second := BitVec.ofNat 32 second
  fraction := BitVec.ofNat 32 fraction
  quality := 0
  status := 0
  freqDev := 0
  rocof := 0
  phasors := [⟨5, 65535⟩]
  analogs := []

/-- A placed record of stream `i` for epoch (6000, `k`). -/
def placedOf (i : StreamId) (k : Nat) : PlacedRecord where
  key := ⟨6000, k⟩
  bank := 0
  stream := i
  supervised := true
  record := recordOf (100 + i.val) 6000 (k * 20000000)
  deltaNs := 0
  correction := 0
  lane := 0
  latency := 56000
  arrivalElapsed := 500000000
  doubtful := false
  corrected := false
  uncorrected := false

/-- A queue item that carries a record. -/
def itemOf (r : Record) (t : LocalTime) : QueueItem := ⟨.measurement r, 0, some t, 500000000⟩

/-- A state with a slot in its table. -/
def withSlot (s : State) (sl : Slot) : State := { s with table := { s.table with slots := [sl], horizon := some sl.key } }

/-- A state with an item at the head of L0. -/
def withItem (s : State) (item : QueueItem) : State :=
  { s with lanes := update s.lanes 0 fun q => { q with queue := [item], deepest := 1 } }

/-- A state with a placed record handed on. -/
def withPlaced (s : State) (r : PlacedRecord) : State := { s with arbiter := { s.arbiter with handling := some r } }

/-! ### Check values: the checks of the catalogued CRC-32/BZIP2 and CRC-16/IBM-3740 over the digits 1 to 9 -/

/-- The digits 1 to 9. -/
def digits : List Byte := [0x31, 0x32, 0x33, 0x34, 0x35, 0x36, 0x37, 0x38, 0x39]

theorem test_crc32 : crc32 digits = 0xFC891918#32 := by decide +kernel

theorem test_crc16 : crc16 digits = 0x29B1#16 := by decide +kernel

/-! ### Worked cases of section 4.11 -/

/-- A state under one bank with stream 0 LIVE. -/
def caseState (b : Bank) (t : LocalTime) : State :=
  { atTime demo t with
    store := { demo.store with banks := Vector.ofFn fun _ => b }
    supervisor := { demo.supervisor with streams := Vector.ofFn fun i => if i.val = 0 then streamIn .live ⟨1, 1, 1⟩ else StreamRecord.unconfigured } }

/-- What a placement hands on, in short. -/
def handedOn : Placement → Option (EpochKey × List Int × List Phasor × List Bool)
  | .placed r => some (r.key, [r.deltaNs, r.correction], r.record.phasors, [r.corrected, r.uncorrected, r.doubtful])
  | _ => none

/-- The placement of a record at a local time under one bank. -/
def placed (b : Bank) (t : LocalTime) (r : Record) : Placement := (caseState b t).place (itemOf r t) t r

/-- Case A: a faster stream, corrected. -/
theorem test_caseA :
    handedOn (placed (bankOf [50, 50, 40, 100, 0, 20, 60, 10, 200, 5, 6, 7] [[1, 100, 100, 1, 1, 1, 0]])
        ⟨1000, 41000000⟩ { recordOf 100 1000 40150000 with quality := 4, freqDev := BitVec.ofInt 16 (-120) })
      = some (⟨1000, 2⟩, [150000, 1], [⟨5, 0⟩], [true, false, false]) := by decide +kernel

/-- Case B: rolling into the next second. -/
theorem test_caseB :
    handedOn (placed (bankOf [50, 50, 40, 100, 0, 20, 60, 10, 10, 5, 6, 7] [[1, 100, 50, 1, 1, 1, 0]])
        ⟨2000, 990000000⟩ { recordOf 100 2000 999996000 with freqDev := 500 })
      = some (⟨2001, 0⟩, [-4000, 0], [⟨5, 65535⟩], [false, false, false]) := by decide +kernel

/-- Case C: a slower stream, frequency unavailable. -/
theorem test_caseC :
    handedOn (placed (bankOf [60, 60, 40, 100, 0, 20, 60, 10, 100, 5, 2, 7] [[1, 100, 30, 1, 1, 1, 0]])
        ⟨3000, 34000000⟩ { recordOf 100 3000 33400000 with quality := 5, freqDev := 0x8000 })
      = some (⟨3000, 2⟩, [66666, 0], [⟨5, 65535⟩], [false, true, true]) := by decide +kernel

/-- Case D: a tie is off the grid. -/
theorem test_caseD_tie :
    placed (bankOf [50, 50, 40, 100, 0, 20, 60, 10, 500, 5, 2, 7] [[1, 100, 25, 1, 1, 1, 0]]) ⟨3000, 34000000⟩
      (recordOf 100 3000 20000000) = .fault (some 0) .offGrid := by decide +kernel

/-- Case D: a between-grid record is dropped. -/
theorem test_caseD_between :
    placed (bankOf [25, 50, 40, 100, 0, 20, 60, 10, 50, 5, 2, 7] [[1, 100, 100, 1, 1, 1, 0]]) ⟨3000, 34000000⟩
      (recordOf 100 3000 10000020) = .dropped := by decide +kernel

/-! ### Resets -/

theorem test_powerOn : (after .powerOn demo).supplies = .rising ∧ (after .powerOn demo).store.active = none := by
  decide +kernel

theorem test_powerOnExit : (after .powerOnExit { demo with supplies := .rising }).operating = true := by decide +kernel

theorem test_supplyBelowLimit : (after .supplyBelowLimit demo).timebase.localTime = none := by decide +kernel

/-- The reset line keeps the profile and sets the enabled streams awaiting (R113, R134). -/
theorem test_resetLine :
    (after .resetLine demo).store.active = some 0 ∧ (after .resetLine demo).supervisor.streams[(3 : StreamId)].health = .awaiting ∧
      (after .resetLine demo).supervisor.streams[(4 : StreamId)].health = .unconfigured := by decide +kernel

theorem test_resetLineRelease : (after .resetLineRelease (after .resetLine demo)).operating = true := by decide +kernel

/-! ### The timebase: section 2.10 and section 2.11 -/

/-- A message on the timing serial line. -/
def message (marked : Nat) (valid : Bool) : Instr := .timeMessage ((TimeMessage.bytes ⟨marked, valid⟩).map .byte)

/-- A message and a PPS. -/
def messageAndPps (marked : Nat) (valid : Bool) (s : State) : State := after .ppsEdge (after (message marked valid) s)

theorem test_timeMessage : (after (message 5000 false) demo).timebase.latest = some ⟨5000, false⟩ := by decide +kernel

/-- A long gap inside a message discards it (R187). -/
theorem test_timeMessage_gap :
    (after (.timeMessage ([.byte 0xC3, .byte 0, .longGap] ++ List.replicate 6 (.byte 0))) demo).timebase.latest
      = some ⟨6000, true⟩ := by decide +kernel

/-- Local time 60 ns behind: a slew (section 2.10 at E + 0). -/
theorem test_ppsEdge_slew :
    (messageAndPps 5000 true (atTime demo ⟨4999, 999999940⟩)).timebase.correction = .slew 60 500000000 := by
  decide +kernel

/-- Local time 45 ms behind: a step (section 2.10 at E + 9.955). -/
theorem test_ppsEdge_step :
    (messageAndPps 5010 true (atTime demo ⟨5009, 955000000⟩)).timebase.localTime = some ⟨5010, 0⟩ := by decide +kernel

/-- Local time 3 s ahead: rejected (section 2.11 at E + 0). -/
theorem test_ppsEdge_rejected :
    (messageAndPps 7200 true (atTime demo ⟨7203, 0⟩)).timebase.rejectedError = some (-3000000000) := by decide +kernel

/-- The rejected state accepts the reference, and the next PPS pauses (section 2.11 at E + 1.4 and E + 2). -/
def accepted : State := after (.acceptReference 1 7) (messageAndPps 7200 true (atTime demo ⟨7203, 0⟩))

theorem test_acceptReference : accepted.timebase.acceptance = .armed := by decide +kernel

theorem test_ppsEdge_pause :
    (messageAndPps 7202 true (atTime accepted ⟨7205, 0⟩)).timebase.correction = .pause 800000000 ∧
      (messageAndPps 7202 true (atTime accepted ⟨7205, 0⟩)).timebase.acceptance = .held := by decide +kernel

/-- A state at another elapsed time. -/
def atElapsed (s : State) (n : Nat) : State := { s with timebase := { s.timebase with elapsed := n } }

theorem test_ppsLossTimerExpiry :
    (after .ppsLossTimerExpiry (atElapsed demo 600000000)).timebase.state = .holdover ∧
      (after .ppsLossTimerExpiry (atElapsed demo 600000000)).timebase.holdoverTimer = some 90600000000 := by
  decide +kernel

/-- In HOLDOVER with the holdover limit run out. -/
def heldOver : State :=
  { demo with
    timebase := { demo.timebase with state := .holdover, lossTimer := none, holdoverTimer := some 500000000 } }

theorem test_holdoverLimitExpiry : (after .holdoverLimitExpiry heldOver).timebase.state = .drifting := by decide +kernel

/-- With a correction in progress. -/
def correcting (c : Correction) : State := { demo with timebase := { demo.timebase with correction := c } }

theorem test_slewEnd : (after .slewEnd (correcting (.slew 60 400000000))).timebase.correction = .none := by decide +kernel

theorem test_slewEnd_early :
    (after .slewEnd (correcting (.slew 60 400000001))).timebase.correction = .slew 60 400000001 := by decide +kernel

theorem test_pauseEnd : (after .pauseEnd (correcting (.pause 500000000))).timebase.correction = .none := by decide +kernel

/-! ### The second: section 6.11 -/

/-- The streams of section 6.11 under bank B just before the second-boundary event for 8000. -/
def busySecond : State :=
  { atTime demo ⟨8000, 0⟩ with
    store := { demo.store with active := some 1, standby := 0 }
    supervisor :=
      { demo.supervisor with
        streams := Vector.ofFn fun i =>
          if i.val = 0 then streamIn .live ⟨56000, 41000, 80000⟩
          else if i.val = 1 then streamIn .live ⟨31000, 30000, 65290⟩
          else if i.val = 4 then streamIn .live ⟨118000, 120000, 200000⟩
          else if i.val = 5 then streamIn .lagging ⟨160000, 150000, 310000⟩
          else StreamRecord.unconfigured } }

theorem test_secondBoundary_wait :
    (after .secondBoundary busySecond).supervisor.fastWait = ⟨88, some 1⟩ ∧
      (after .secondBoundary busySecond).supervisor.worst = [5, 4, 0, 1] := by decide +kernel

theorem test_secondBoundary_peaks :
    (after .secondBoundary busySecond).supervisor.streams[(5 : StreamId)].tracker = some ⟨160000, 150000, 300313⟩ := by
  decide +kernel

/-- R102's sample of section 6.11: S moves from 40,000 to 41,000. -/
theorem test_trackSample : trackSample (some ⟨0, 40000, 80000⟩) 56000 = ⟨56000, 41000, 80000⟩ := by decide

/-! ### The table: section 5.10 -/

/-- A opens with its sets (stream 3 LAGGING is expected and not gating). -/
theorem test_epochBoundary :
    (after .epochBoundary demo).table.slots.map (fun sl => (sl.key, sl.expected, sl.gating))
      = [(⟨6000, 0⟩, [0, 1, 2, 3], [0, 1])] := by decide +kernel

/-- B opens without stream 2, which is off its grid. -/
theorem test_epochBoundary_offGrid :
    (after .epochBoundary (atTime demo ⟨6000, 20000000⟩)).table.slots.map (fun sl => sl.expected) = [[0, 1, 3]] := by
  decide +kernel

/-- The second record completes the gating set: fast cut 871, cause GATING (section 5.10 at 12). -/
theorem test_tableTakeRecord :
    ((after .tableTakeRecord (withPlaced (after .tableTakeRecord (withPlaced (withSlot demo (slotA 1)) (placedOf 0 1)))
      (placedOf 1 1))).table.slots.map fun sl => sl.fastCut) = [some ⟨.gating, 871⟩] := by decide +kernel

theorem test_fastDeadlineExpiry :
    ((after (.fastDeadlineExpiry ⟨6000, 0⟩) (atTime (withSlot demo (slotA 0)) ⟨6000, 40000000⟩)).table.slots.map
      fun sl => sl.fastCut) = [some ⟨.deadline, 871⟩] := by decide +kernel

theorem test_fastDeadlineExpiry_early :
    ((after (.fastDeadlineExpiry ⟨6000, 0⟩) (atTime (withSlot demo (slotA 0)) ⟨6000, 39999990⟩)).table.slots.map
      fun sl => sl.fastCut) = [none] := by decide +kernel

/-- A slot that holds its fast cut. -/
def cutSlot : Slot := { slotA 0 with fastReady := some .gating, fastCut := some ⟨.gating, 870⟩ }

theorem test_fullDeadlineExpiry :
    ((after (.fullDeadlineExpiry ⟨6000, 0⟩) (atTime (withSlot demo cutSlot) ⟨6000, 100000000⟩)).table.slots.map
      fun sl => sl.fullCut) = [some ⟨.deadline, 871⟩] := by decide +kernel

/-- Draining ends when the slots of its generation are CLOSED (R132). -/
theorem test_drainingEnd :
    (after .drainingEnd { demo with store := { demo.store with draining := some ⟨2, 6000⟩ } }).store.draining = none := by
  decide +kernel

/-! ### Lanes, the arbiter and the relay -/

/-- A valid frame on a lane. -/
def laneFrame (l : LaneId) (c : LaneContent) : Instr := .laneFrameArrival l (c.bytes.map .byte)

theorem test_laneFrameArrival :
    (after (laneFrame 2 (.measurement (recordOf 100 6000 0))) demo).lanes[(2 : LaneId)].queue
      = [⟨.measurement (recordOf 100 6000 0), 2, some ⟨6000, 0⟩, 500000000⟩] := by decide +kernel

/-- A declared length of 107 is broken off and counted (R185). -/
theorem test_laneFrameArrival_long :
    (after (.laneFrameArrival 0 [.byte 0xA5, .byte 1, .byte 107]) demo).lanes[(0 : LaneId)].discardCount = 1 := by
  decide +kernel

theorem test_laneSilenceTimerExpiry :
    (after (.laneSilenceTimerExpiry 1) { demo with lanes := update demo.lanes 1 fun q =>
      { q with up := true, silenceTimer := some 500000000 } }).lanes[(1 : LaneId)].up = false := by decide +kernel

theorem test_arbiterTake_position : (after .arbiterTake (withItem demo (itemOf (recordOf 100 6000 0) ⟨6000, 0⟩))).arbiter.position = 1 := by
  decide +kernel

/-- An unknown station raises UNKNOWN_SOURCE, whose bit weighs 2^3 (R43, R190). -/
theorem test_arbiterTake_unknown :
    (after .arbiterTake (withItem demo (itemOf (recordOf 999 6000 0) ⟨6000, 0⟩))).ports[(2 : PortId)].latched = 8 := by
  decide +kernel

theorem test_streamSilenceTimerExpiry :
    (after (.streamSilenceTimerExpiry 1) (atElapsed demo 600000000)).supervisor.streams[(1 : StreamId)].health = .silent := by
  decide +kernel

/-- Section 6.12: the quiet window passes and the faults are forgotten. -/
theorem test_quietTimerExpiry :
    ({ streamIn .live ⟨1, 1, 1⟩ with faultCount := 2, quietTimer := some 0 } : StreamRecord).forgetFaults.faultCount = 0 := by
  decide

/-- Section 6.12: the fourth fault quarantines. -/
theorem test_fault_quarantines :
    (StreamRecord.fault 0 .offGrid { streamIn .live ⟨1, 1, 1⟩ with faultCount := 3, quietTimer := some 0 }).health
      = .quarantined := by decide

/-- Section 6.13: the eighth miss in a row makes the stream LAGGING. -/
theorem test_presence_lagging :
    (StreamRecord.presence false { streamIn .live ⟨1, 1, 1⟩ with missStreak := 7 }).health = .lagging ∧
      (StreamRecord.presence false { streamIn .live ⟨1, 1, 1⟩ with missStreak := 6 }).health = .live := by decide

/-- A command issued for stream 0 while its last lane is UP. -/
def commanded : State :=
  after (.streamCommand 1 9 0 0) { demo with lanes := update demo.lanes 0 fun q => { q with up := true } }

theorem test_streamCommand : commanded.lanes[(0 : LaneId)].outbound = [⟨100, 0, .halt⟩] := by decide +kernel

theorem test_streamCommand_noRoute :
    (after (.streamCommand 1 9 0 0) demo).ports[(1 : PortId)].outbound.map (fun f => f.reply.code) = [.noRoute] := by
  decide +kernel

/-- The HALT frame on the line: start byte, type 81H, length 4, station 100, tag 0, action 0 (R184). -/
theorem test_commandFrameSent :
    ((after (.commandFrameSent 0) commanded).lanes[(0 : LaneId)].lastSent).map (List.take 7)
      = some [0xA5, 0x81, 4, 0, 100, 0, 0] := by decide +kernel

/-- The acknowledgment halts the stream (R98, R140). -/
theorem test_acknowledgment :
    (after .arbiterTake (after (laneFrame 3 (.acknowledgment ⟨100, 0, .done⟩)) commanded)).supervisor.streams[(0 : StreamId)].health
      = .halted := by decide +kernel

theorem test_commandTimeout :
    ((after (.commandTimeout 0) (atElapsed commanded 700000000)).ports[(1 : PortId)].outcome).map (fun o => o.result)
      = some .timedOut := by decide +kernel

/-! ### The link: section 9.6 -/

/-- A request frame on a port's line. -/
def requestFrame (p : PortId) (tag code : Byte) (payload : List Byte) : Instr :=
  .requestFrameArrival p ((consumerFrameBytes tag code payload).map .byte)

theorem test_requestFrameArrival :
    (after (requestFrame 2 10 9 []) demo).ports[(2 : PortId)].handler = .inHand (.readLanes 2 10) := by decide +kernel

/-- A code that names no request is MALFORMED (step 8). -/
theorem test_requestFrameArrival_malformed :
    (after (requestFrame 2 16 0x77 []) demo).ports[(2 : PortId)].outbound.map (fun f => f.reply.code) = [.malformed] := by
  decide +kernel

/-- A port that is EXECUTING answers BUSY (step 2). -/
theorem test_requestFrameArrival_busy :
    (after (requestFrame 2 11 1 []) (after (.readLanes 2 10) demo)).ports[(2 : PortId)].outbound.map
      (fun f => (f.reply.code, f.tag)) = [(.ok, 10), (.busy, 11)] := by decide +kernel

theorem test_responseSent :
    (after (.responseSent 2) (after (.beginEdit 2 10) demo)).ports[(2 : PortId)].handler = .idle ∧
      ((after (.responseSent 2) (after (.beginEdit 2 10) demo)).ports[(2 : PortId)].lastSent).map (List.take 5)
        = some [0x5A, 10, 0, 0, 0] := by decide +kernel

/-! ### Requests -/

/-- The response code and result of the last response of CP0 after a request command. -/
def replyTo (c : Instr) (s : State) : Option (Code × Result) :=
  ((after c s).ports[(0 : PortId)].outbound.getLast?).map fun f => (f.reply.code, f.reply.result)

theorem test_status :
    (match replyTo (.status 0 1) demo with
      | some (.ok, .status r) => (r.device, r.freeSlots, r.activeRate)
      | _ => (.unprovisioned, 0, none)) = (.aligning, 512, some 50) := by decide +kernel

/-- PROFILE_SWITCHED latched: returned and cleared (R176). -/
theorem test_readConditions :
    (after (.readConditions 0 1) (demo.latchAll .profileSwitched)).ports[(0 : PortId)].latched = 0 ∧
      (after (.readConditions 0 1) (demo.latchAll .profileSwitched)).ports[(1 : PortId)].latched = 0x200 := by decide +kernel

theorem test_setMask :
    replyTo (.setMask 0 1 2 ([0, 14] ++ List.replicate 13 0)) demo = some (.ok, .mask 0x4001) := by decide +kernel

theorem test_setMask_twice :
    replyTo (.setMask 0 1 2 ([3, 3] ++ List.replicate 13 0)) demo = some (.invalid, .empty) := by decide +kernel

/-- FULL from the newest, filter 0 and 2. -/
theorem test_subscribe :
    replyTo (.subscribe 0 1 2 0 2 ([2, 0] ++ List.replicate 46 0)) demo
      = some (.ok, .reading false true [0, 2] 1 871) := by decide +kernel

/-- A CLOSED slot with full number 870. -/
def closedSlot : Slot := { cutSlot with fullReady := some .deadline, fullCut := some ⟨.deadline, 870⟩ }

/-- CP0 subscribed to full snapshots with its cursor at 868. -/
def reader : State :=
  { withSlot demo closedSlot with
    ports := update demo.ports 0 fun q => { q with subFull := true, fullCursor := 868, filter := [0, 4] } }

/-- The oldest retained snapshot is delivered with the skipped count (R164). -/
theorem test_readSnapshotNext :
    (match replyTo (.readSnapshotNext 0 1 1 0) reader with
      | some (.ok, .snapshot v) => (v.seq, v.skipped, v.items.map fun it => (it.stream, it.form))
      | _ => (0, 0, [])) = (870, 2, [(0, .missing true)]) := by decide +kernel

theorem test_readSnapshotSequence_expired :
    replyTo (.readSnapshotSequence 0 1 1 1 869) reader = some (.expired, .oldest 870) := by decide +kernel

theorem test_readSnapshotSequence_notYet :
    replyTo (.readSnapshotSequence 0 1 1 1 871) reader = some (.notYet, .empty) := by decide +kernel

theorem test_readRosterState :
    (after (.readRosterState 0 1) demo).ports[(0 : PortId)].watch[(3 : StreamId)] = .lagging := by decide +kernel

theorem test_readStreamDetail :
    (match replyTo (.readStreamDetail 0 1 3) demo with
      | some (.ok, .detail d) => (d.station, d.health, d.silenceLeft)
      | _ => (none, .unconfigured, none)) = (some 103, .lagging, some 100000000) := by decide +kernel

theorem test_readStreamDetail_range : replyTo (.readStreamDetail 0 1 48) demo = some (.invalid, .empty) := by decide +kernel

theorem test_readWorstLatency :
    replyTo (.readWorstLatency 0 1) demo = some (.ok, .worst [] none ⟨40, some 0⟩) := by decide +kernel

theorem test_readLanes :
    (match replyTo (.readLanes 0 1) demo with
      | some (.ok, .lanes r p) => (r.length, p)
      | _ => (0, 1)) = (4, 0) := by decide +kernel

theorem test_profileCursor :
    replyTo (.profileCursor 0 1 1 16 1) demo = some (.ok, .cursor ⟨.standby, 16, .afterEach⟩) := by decide +kernel

/-- CP0 with its cursor at the last global item of the active bank, AFTER_EACH. -/
def editor : State :=
  { demo with
    store := { demo.store with claim := some ⟨0, 900000000⟩ }
    ports := update demo.ports 0 fun q => { q with cursor := ⟨.active, 11, .afterEach⟩ } }

/-- The advance leaps to the first stream group (R121). -/
theorem test_profileGet : replyTo (.profileGet 0 1 1) editor = some (.ok, .items [7] ⟨.active, 16, .afterEach⟩) := by
  decide +kernel

/-- The three landings of an advance: inside a run, over the gap after the global items, and past stream 47 (R121). -/
theorem test_addressAfter : (addressAfter 3, addressAfter 11, addressAfter 22, addressAfter 774) = (4, 16, 32, 784) := by decide

theorem test_profileGet_undefined : replyTo (.profileGet 0 1 2) editor = some (.invalid, .empty) := by decide +kernel

theorem test_profilePut :
    ((after (.profilePut 0 1 [9]) editor).store.bank 1).label = 9 ∧
      ((after (.profilePut 0 1 [9]) editor).store.bank 0).label = 7 := by decide +kernel

theorem test_beginEdit : replyTo (.beginEdit 0 1) demo = some (.ok, .empty) := by decide +kernel

theorem test_beginEdit_held :
    replyTo (.beginEdit 0 1) { demo with store := { demo.store with claim := some ⟨2, 900000000⟩ } }
      = some (.held, .empty) := by decide +kernel

theorem test_abandonEdit : (after (.abandonEdit 0 1) editor).store.claim = none := by decide +kernel

theorem test_claimTimerExpiry :
    (after .claimTimerExpiry (atElapsed editor 900000000)).ports[(0 : PortId)].latched = 0x400 := by decide +kernel

theorem test_commitSwitchAtSecond :
    (after (.commitSwitchAtSecond 0 1 1 6002) editor).store.pendingSwitch = some 6002 := by decide +kernel

theorem test_commitSwitchAtSecond_early :
    replyTo (.commitSwitchAtSecond 0 1 1 6001) editor = some (.invalid, .empty) := by decide +kernel

/-- UNPROVISIONED with a valid standby bank and the claim held by CP0. -/
def unprovisioned : State := { editor with store := { editor.store with active := none } }

theorem test_commitSwitchNow :
    (after (.commitSwitchNow 0 1 0) unprovisioned).store.active = some 1 ∧
      (after (.commitSwitchNow 0 1 0) unprovisioned).table.horizon = some ⟨6000, 0⟩ := by decide +kernel

theorem test_cancelSwitch :
    (after (.cancelSwitch 0 1) { demo with store := { demo.store with pendingSwitch := some 6002 } }).store.pendingSwitch
      = none := by decide +kernel

theorem test_releaseStream : replyTo (.releaseStream 0 1 0) demo = some (.state, .empty) := by decide +kernel

theorem test_clearAlignment :
    replyTo (.clearAlignment 0 1) reader = some (.ok, .numbers 871 871) ∧
      (after (.clearAlignment 0 1) reader).table.slots = [] := by decide +kernel

theorem test_portReset : (after (.portReset 0 1) reader).ports[(0 : PortId)].fullCursor = 871 := by decide +kernel

/-! ### The queue -/

/-- A step takes the front of the queue. -/
theorem test_step_front :
    (match step { demo with pending := [.beginEdit 0 1, .beginEdit 1 1] } with
      | .next t => (t.pending, t.store.claim.map Claim.holder)
      | _ => ([], none)) = ([.beginEdit 1 1], some 0) := by decide +kernel

/-- On an empty queue the idle part takes what is due: here the second boundary and the epoch boundary. -/
theorem test_step_idle :
    (match step demo with
      | .next t => t.pending
      | _ => []) = [.secondBoundary, .epochBoundary] := by decide +kernel

/-! ### Witnesses: for each statement with hypotheses, a state and operands that meet them -/

/-- The laws of a slot, as a check. -/
def slotOk (sl : Slot) : Bool :=
  (!sl.fullCut.isSome || sl.fastCut.isSome) &&
  (sl.fastCut.all fun c => sl.fastReady == some c.cause) &&
  (sl.fullCut.all fun c => sl.fullReady == some c.cause) &&
  sl.fullReady != some .gating &&
  (sl.gating.all fun i => sl.expected.contains i) && (sl.expected.all fun i => sl.enabled.contains i) &&
  (sl.fastCut.isSome || sl.entries.all fun e => e.all fun e => !e.late && e.mark != .afterFastCut)

theorem slotInv_of_ok {sl : Slot} (h : slotOk sl = true) : SlotInv sl := by
  simp only [slotOk, Bool.and_eq_true, Bool.or_eq_true] at h
  obtain ⟨⟨⟨⟨⟨⟨h1, h2⟩, h3⟩, h4⟩, h5⟩, h6⟩, h7⟩ := h
  refine ⟨?_, ?_, ?_, by simpa using h4, ?_, ?_, ?_⟩
  · intro hf
    simpa [hf] using h1
  · intro c hc
    simpa [hc] using h2
  · intro c hc
    simpa [hc] using h3
  · intro i hi
    simpa using List.all_eq_true.mp h5 i hi
  · intro i hi
    simpa using List.all_eq_true.mp h6 i hi
  · intro i e he hl
    rcases h7 with h7 | h7
    · exact h7
    · rw [Vector.all_eq_true] at h7
      have := h7 i.val i.isLt
      rw [show sl.entries[i.val] = some e from he] at this
      simp at this
      rcases hl with hl | hl <;> simp [hl] at this

/-- A run of numbers, as a check. -/
theorem runUpTo_of {next : Nat} {l : List Nat} (h : l.length < next ∧ l = List.range' (next - l.length) l.length) :
    RunUpTo next l := ⟨l.length, h.1, h.2⟩

/-- The laws of the table, as a check. -/
theorem tableInv_of {s : State} (h1 : s.table.slots.all slotOk = true)
    (h2 : s.table.slots.Pairwise fun a b => EpochKey.older a.key b.key) (hz : EpochKey)
    (h3 : s.table.horizon = some hz ∧ ∀ sl ∈ s.table.slots, ¬ EpochKey.older hz sl.key)
    (h4 : (s.table.slots.map Slot.number).Nodup)
    (h5 : s.table.slots.Pairwise fun a b => b.fastCut.isSome = true → a.fastCut.isSome = true)
    (h6 : s.table.slots.Pairwise fun a b => b.fullCut.isSome = true → a.fullCut.isSome = true)
    (h7 : let l := s.table.slots.filterMap fun sl => sl.fastCut.map Cut.seq
      l.length < s.table.nextFast ∧ l = List.range' (s.table.nextFast - l.length) l.length)
    (h8 : let l := s.table.slots.filterMap fun sl => sl.fullCut.map Cut.seq
      l.length < s.table.nextFull ∧ l = List.range' (s.table.nextFull - l.length) l.length)
    (h9 : s.store.active.isSome = true ∧ s.timebase.localTime.isSome = true) : TableInv s := by
  refine ⟨fun sl hs => slotInv_of_ok (List.all_eq_true.mp h1 sl hs), h2, fun sl hs => ⟨hz, h3.1, h3.2 sl hs⟩, h4, h5, h6,
    runUpTo_of h7, runUpTo_of h8, fun h => ?_⟩
  rcases h with h | h
  · simp [h] at h9
  · simp [h] at h9

theorem demo_table : TableInv demo :=
  tableInv_of (by decide +kernel) (by decide +kernel) ⟨5999, 49⟩ (by decide +kernel) (by decide +kernel)
    (by decide +kernel) (by decide +kernel) (by decide +kernel) (by decide +kernel) (by decide +kernel)

/-- A state whose table holds one slot is in order when the slot is. -/
theorem withSlot_table (s : State) (sl : Slot) (ok : slotOk sl = true) (hf : 2 ≤ s.table.nextFast)
    (hu : 2 ≤ s.table.nextFull)
    (h1 : ∀ c, sl.fastCut = some c → c.seq + 1 = s.table.nextFast)
    (h2 : ∀ c, sl.fullCut = some c → c.seq + 1 = s.table.nextFull)
    (h3 : s.store.active.isSome = true ∧ s.timebase.localTime.isSome = true) : TableInv (withSlot s sl) := by
  refine tableInv_of (by simp [withSlot, ok]) (by simp [withSlot]) sl.key ⟨rfl, ?_⟩ (by simp [withSlot])
    (by simp [withSlot]) (by simp [withSlot]) ?_ ?_ h3
  · intro x hx
    simp [withSlot] at hx
    subst hx
    omega
  · cases hc : sl.fastCut with
    | none =>
      simp [withSlot, hc]
      omega
    | some c =>
      have := h1 c hc
      simp [withSlot, hc]
      omega
  · cases hc : sl.fullCut with
    | none =>
      simp [withSlot, hc]
      omega
    | some c =>
      have := h2 c hc
      simp [withSlot, hc]
      omega

theorem demo_serves (p : PortId) : Serves demo p := ⟨by decide +kernel, by revert p; decide +kernel⟩

theorem witness_PowerOnActs :
    (∃ s : State, s.supplies = .rising) ∧ ∃ s : State, s.supplies ≠ .rising :=
  ⟨⟨{ demo with supplies := .rising }, rfl⟩, ⟨demo, by decide +kernel⟩⟩

theorem witness_ResetLineActs :
    (∃ s : State, s.store.active = none ∧ s.resetLow = false) ∧
    (∃ s : State, ∃ a, s.store.active = some a ∧ (s.store.bank a).adaptive = true ∧ s.resetLow = true) ∧
    (∃ (s : State) (a : BankId) (i j : StreamId), s.store.active = some a ∧ (s.store.bank a).adaptive = false ∧
      (s.store.bank a).enabled i = true ∧ (s.store.bank a).enabled j = false) :=
  ⟨⟨State.reset, rfl, rfl⟩, ⟨{ busySecond with resetLow := true }, 1, by decide +kernel⟩,
    ⟨demo, 0, 3, 47, by decide +kernel⟩⟩

theorem witness_NothingTakenInReset :
    (∃ s : State, s.operating = false ∧ s.resetLow = true) ∧ (∃ s : State, s.operating = false ∧ s.supplies = .below) ∧
      Instr.isReset .ppsEdge = false ∧ Instr.ppsEdge ≠ .powerOnExit ∧ Instr.ppsEdge ≠ .resetLineRelease :=
  ⟨⟨{ demo with resetLow := true }, by decide +kernel⟩, ⟨{ demo with supplies := .below }, by decide +kernel⟩,
    by decide, by decide, by decide⟩

/-- The greatest second, and a check value that disagrees. -/
theorem witness_TimeMessageTaken :
    (∃ s : State, s.operating = true ∧ s.timebase.rx = .hunting) ∧ (∃ m : TimeMessage, m.marked = 2 ^ 32 - 1 ∧ m.marked < 2 ^ 32) ∧
      ∃ body check : List Byte, body.length = 5 ∧ check.length = 2 ∧ valueOf check ≠ (crc16 body).toNat :=
  ⟨⟨demo, by decide +kernel⟩, ⟨⟨2 ^ 32 - 1, true⟩, by decide⟩, ⟨[0, 0, 0, 0, 0], [0, 0], by decide +kernel⟩⟩

/-- With a latest message and a note of the previous PPS. -/
def heard (m : Option TimeMessage) (fresh : Bool) (prev : Option Nat) (s : State) : State :=
  { s with timebase := { s.timebase with latest := m, messageSincePps := fresh, prevSecond := prev } }

theorem witness_InvalidPpsOnlyNoted :
    (∃ s : State, s.operating = true ∧ s.timebase.latest = none) ∧
    (∃ s : State, ∃ m, s.operating = true ∧ s.timebase.latest = some m ∧ m.valid = false ∧ s.timebase.messageSincePps = true) ∧
    ∃ s : State, ∃ m y, s.operating = true ∧ s.timebase.latest = some m ∧ m.valid = false ∧
      s.timebase.messageSincePps = false ∧ s.timebase.prevSecond = some y ∧ y = 4294967294 ∧ y < 4294967295 :=
  ⟨⟨State.reset, by decide +kernel⟩, ⟨heard (some ⟨5, false⟩) true none demo, ⟨5, false⟩, by decide +kernel⟩,
    ⟨heard (some ⟨5, false⟩) false (some 4294967294) demo, ⟨5, false⟩, 4294967294, by decide +kernel⟩⟩

/-- A state in which the next PPS is valid and announces `x`. -/
def validAt (x : Nat) (s : State) : State := heard (some ⟨x, true⟩) true none s

theorem validAt_valid (x : Nat) (s : State) (h : s.operating = true) : ValidPps (validAt x s) x :=
  ⟨h, ⟨x, true⟩, rfl, rfl, .inl ⟨rfl, rfl⟩⟩

/-- UNSET, with and without an active bank. -/
def unsetState (a : Option BankId) : State := { State.reset with store := { demo.store with active := a } }

theorem witness_FirstValidPpsSetsTime (a : Option BankId) :
    ∃ s : State, ValidPps s 7 ∧ s.timebase.localTime = none ∧ s.timebase.state = .unset ∧
      s.store.pendingSwitch = none ∧ s.store.draining = none ∧ s.table.slots = [] ∧ s.table.horizon = none ∧
      s.store.active = a :=
  ⟨validAt 7 (unsetState a), validAt_valid 7 _ rfl, rfl, rfl, rfl, rfl, rfl, rfl, rfl⟩

/-- A valid PPS without a message since the previous one. -/
theorem witness_ValidPps_noMessage : ValidPps (heard (some ⟨5, true⟩) false (some 4294967294) demo) 4294967295 :=
  ⟨by decide +kernel, ⟨5, true⟩, rfl, rfl, .inr ⟨rfl, 4294967294, rfl, by decide, rfl⟩⟩

theorem witness_SmallErrorSlews :
    ∃ (s : State) (t₀ t₁ : LocalTime), ValidPps s 6000 ∧
      (s.timebase.localTime = some t₀ ∧ errorOf 6000 t₀ = 200000 ∧ (errorOf 6000 t₀).natAbs ≤ 200000) ∧
      ValidPps (atTime s t₁) 6000 ∧ (errorOf 6000 t₁ = -200000 ∧ (errorOf 6000 t₁).natAbs ≤ 200000) ∧
      ValidPps (atTime s ⟨6000, 0⟩) 6000 ∧ errorOf 6000 ⟨6000, 0⟩ = 0 :=
  ⟨atTime (validAt 6000 demo) ⟨5999, 999800000⟩, ⟨5999, 999800000⟩, ⟨6000, 200000⟩,
    validAt_valid _ demo (by decide +kernel), by decide +kernel, validAt_valid _ demo (by decide +kernel),
    by decide +kernel, validAt_valid _ demo (by decide +kernel), by decide +kernel⟩

/-- In REJECTED, with acceptance ARMED. -/
def armed (s : State) : State :=
  { s with
    timebase :=
      { s.timebase with state := .rejected, acceptance := .armed, rejectedError := some 3000000000, lossTimer := none } }

/-- The laws of the table look at the table, the active bank and whether local time is set. -/
theorem table_of {s t : State} (d : TableInv t) (h : s.table = t.table) (ha : s.store.active.isSome = true)
    (ht : s.timebase.localTime.isSome = true) : TableInv s := by
  unfold TableInv at d ⊢
  rw [h]
  refine ⟨d.1, d.2.1, d.2.2.1, d.2.2.2.1, d.2.2.2.2.1, d.2.2.2.2.2.1, d.2.2.2.2.2.2.1, d.2.2.2.2.2.2.2.1, fun no => ?_⟩
  rcases no with no | no
  · simp [no] at ha
  · simp [no] at ht

theorem table_of_demo {s : State} (h : s.table = demo.table) (ha : s.store.active.isSome = true)
    (ht : s.timebase.localTime.isSome = true) : TableInv s := table_of demo_table h ha ht

theorem armed_table (t : LocalTime) : TableInv (atTime (validAt 6000 (armed demo)) t) := table_of_demo rfl rfl rfl

/-- An error of 200,010 ns, one of 2 s, and one above 2 s under acceptance. -/
theorem witness_LargeErrorSteps :
    (∃ s : State, ValidPps s 6000 ∧ s.timebase.localTime = some ⟨5999, 999799990⟩ ∧ TableInv s ∧
      errorOf 6000 ⟨5999, 999799990⟩ = 200010 ∧ s.timebase.acceptance ≠ .none) ∧
    (∃ s : State, ValidPps s 6000 ∧ s.timebase.localTime = some ⟨5998, 0⟩ ∧ TableInv s ∧
      errorOf 6000 ⟨5998, 0⟩ = 2000000000) ∧
    (∃ s : State, ValidPps s 6000 ∧ s.timebase.localTime = some ⟨5997, 0⟩ ∧ TableInv s ∧
      2000000000 < errorOf 6000 ⟨5997, 0⟩ ∧ s.timebase.acceptance ≠ .none) :=
  ⟨⟨_, validAt_valid 6000 (atTime (armed demo) _) (by decide +kernel), rfl, armed_table _, by decide, by decide +kernel⟩,
    ⟨_, validAt_valid 6000 (atTime (armed demo) _) (by decide +kernel), rfl, armed_table _, by decide⟩,
    ⟨_, validAt_valid 6000 (atTime (armed demo) _) (by decide +kernel), rfl, armed_table _, by decide, by decide +kernel⟩⟩

theorem witness_NegativeErrorPauses :
    (∃ s : State, ValidPps s 6000 ∧ s.timebase.localTime = some ⟨6000, 200010⟩ ∧ errorOf 6000 ⟨6000, 200010⟩ = -200010) ∧
    (∃ s : State, ValidPps s 6000 ∧ s.timebase.localTime = some ⟨6002, 0⟩ ∧ errorOf 6000 ⟨6002, 0⟩ = -2000000000 ∧
      s.timebase.correction.isPause = true) ∧
    (∃ s : State, ValidPps s 6000 ∧ s.timebase.localTime = some ⟨6003, 0⟩ ∧ errorOf 6000 ⟨6003, 0⟩ < -2000000000 ∧
      s.timebase.acceptance ≠ .none) :=
  ⟨⟨validAt 6000 (atTime demo ⟨6000, 200010⟩), validAt_valid _ _ (by decide +kernel), rfl, by decide⟩,
    ⟨validAt 6000 (atTime (correcting (.pause 600000000)) ⟨6002, 0⟩), validAt_valid _ _ (by decide +kernel), rfl, by decide,
      rfl⟩,
    ⟨validAt 6000 (atTime (armed demo) ⟨6003, 0⟩), validAt_valid _ _ (by decide +kernel), rfl, by decide, by decide +kernel⟩⟩

theorem witness_ExcessiveErrorRejected :
    (∃ s : State, ValidPps s 6000 ∧ s.timebase.localTime = some ⟨5997, 999999990⟩ ∧ s.timebase.acceptance = .none ∧
      errorOf 6000 ⟨5997, 999999990⟩ = 2000000010 ∧ 2000000000 < (errorOf 6000 ⟨5997, 999999990⟩).natAbs) ∧
    (∃ s : State, ValidPps s 6000 ∧ s.timebase.localTime = some ⟨6002, 10⟩ ∧ s.timebase.acceptance = .none ∧
      errorOf 6000 ⟨6002, 10⟩ = -2000000010 ∧ 2000000000 < (errorOf 6000 ⟨6002, 10⟩).natAbs) :=
  ⟨⟨validAt 6000 (atTime demo ⟨5997, 999999990⟩), validAt_valid _ _ (by decide +kernel), rfl, rfl, by decide⟩,
    ⟨validAt 6000 (atTime demo ⟨6002, 10⟩), validAt_valid _ _ (by decide +kernel), rfl, rfl, by decide⟩⟩

theorem witness_TimebaseTimersExpire :
    (∃ s : State, s.operating = true ∧ s.timebase.state = .locked ∧ s.timebase.lossTimer = some 600000000 ∧
      600000000 ≤ s.timebase.elapsed) ∧
    (∃ s : State, s.operating = true ∧ s.timebase.state = .holdover ∧ s.timebase.holdoverTimer = some 500000000 ∧
      500000000 ≤ s.timebase.elapsed) ∧
    (∃ s : State, s.operating = true ∧ s.timebase.correction = .slew 60 400000000 ∧
      400000000 + 100000000 ≤ s.timebase.elapsed) ∧
    ∃ s : State, s.operating = true ∧ s.timebase.correction = .pause 500000000 ∧ 500000000 ≤ s.timebase.elapsed ∧
      s.timebase.localTime = some ⟨6000, 0⟩ ∧ TableInv s :=
  ⟨⟨atElapsed demo 600000000, by decide +kernel⟩, ⟨heldOver, by decide +kernel⟩,
    ⟨correcting (.slew 60 400000000), by decide +kernel⟩,
    ⟨correcting (.pause 500000000), by decide +kernel, rfl, by decide +kernel, rfl, demo_table⟩⟩

/-- The receivers of L0, CP0 and the timing line inside a frame, whose last byte came at elapsed time 0. -/
def midFrame (n : Nat) : State :=
  { atElapsed demo n with
    timebase := { demo.timebase with elapsed := n, rx := .receiving [0xC3] 0 }
    lanes := update demo.lanes 0 fun q => { q with rx := .receiving [0xA5] 0 }
    ports := update demo.ports 0 fun q => { q with rx := .receiving [0x5A] 0 } }

/-- Each of the three gaps at its limit and one tick past it. -/
theorem test_gap_limits :
    ((after (.timeMessage []) (midFrame 500000)).timebase.rx, (after (.timeMessage []) (midFrame 500001)).timebase.rx)
      = (.receiving [0xC3] 0, .hunting) ∧
    ((after (.laneFrameArrival 0 []) (midFrame 1000)).lanes[(0 : LaneId)].discardCount,
      (after (.laneFrameArrival 0 []) (midFrame 1001)).lanes[(0 : LaneId)].discardCount) = (0, 1) ∧
    ((after (.requestFrameArrival 0 []) (midFrame 100000)).ports[(0 : PortId)].discardCount,
      (after (.requestFrameArrival 0 []) (midFrame 100001)).ports[(0 : PortId)].discardCount) = (0, 1) := by decide +kernel

/-- Two halves of a lane frame that arrive 1 s of elapsed time apart make no frame; at one elapsed time they make one. -/
theorem test_gap_halves :
    let line := (LaneContent.bytes (.acknowledgment ⟨100, 0, .done⟩)).map LineEvent.byte
    let first := after (.laneFrameArrival 0 (line.take 6)) demo
    (after (.laneFrameArrival 0 (line.drop 6)) first).lanes[(0 : LaneId)].validCount = 1 ∧
      (after (.laneFrameArrival 0 (line.drop 6)) (atElapsed first 600000000)).lanes[(0 : LaneId)].validCount = 0 := by
  decide +kernel

/-- On an empty queue the idle part brings an elapsed gap to its receiver. -/
theorem test_gap_idle :
    (match step (midFrame 1001) with
      | .next t => t.pending
      | _ => []) = [.laneFrameArrival 0 [], .secondBoundary, .epochBoundary] := by decide +kernel

/-- A gap at its limit and one tick past it. -/
theorem witness_Gaps :
    ∀ n ∈ [1000, 1001, 100000, 100001, 500000, 500001], (midFrame n).operating = true ∧ (midFrame n).timebase.elapsed = n ∧
      (midFrame n).timebase.rx = .receiving [0xC3] 0 ∧ (midFrame n).lanes[(0 : LaneId)].rx = .receiving [0xA5] 0 ∧
      (midFrame n).ports[(0 : PortId)].rx = .receiving [0x5A] 0 := by
  intro n _
  exact ⟨rfl, rfl, rfl, by simp [midFrame, update], by simp [midFrame, update]⟩

/-- Every boundary of (6000, 0) taken. -/
def quiet (c : Correction) : State :=
  { demo with
    timebase := { demo.timebase with lastSecondEvent := some 6000, correction := c }
    table := { demo.table with horizon := some ⟨6000, 0⟩ } }

theorem quiet_not_due (k : Correction) (h1 : ∀ e start, k = .slew e start → 500000000 < start + 100000000)
    (h2 : ∀ ends, k = .pause ends → 500000000 < ends) (c : Instr) : ¬ Due (quiet k) c := by
  have silence : ∀ i : StreamId, ∀ d, (quiet k).supervisor.streams[i].silenceTimer = some d → d = 600000000 := by
    have : ∀ i : StreamId, demo.supervisor.streams[i].silenceTimer.all (· == 600000000) = true := by decide +kernel
    intro i d hd
    have := this i
    rw [show demo.supervisor.streams[i].silenceTimer = some d from hd] at this
    simpa using this
  have quietTimer : ∀ i : StreamId, (quiet k).supervisor.streams[i].quietTimer = none :=
    show ∀ i : StreamId, demo.supervisor.streams[i].quietTimer = none by decide +kernel
  have lanes : ∀ l : LaneId, demo.lanes[l].silenceTimer = none ∧ demo.lanes[l].rx = .hunting ∧ demo.lanes[l].queue = [] := by
    decide +kernel
  have ports : ∀ p : PortId, demo.ports[p].rx = .hunting ∧ demo.ports[p].handler = .idle := by decide +kernel
  have slots : ∀ i : StreamId, demo.relay.slots[i] = none := by decide +kernel
  intro due
  cases due with
  | ppsLoss d h past =>
    cases h
    exact absurd past (show ¬ 600000000 ≤ 500000000 by decide)
  | holdover d h => cases h
  | slew e start h past => exact absurd past (by have := h1 e start h; show ¬ _ ≤ 500000000; omega)
  | pause ends h past => exact absurd past (by have := h2 ends h; show ¬ _ ≤ 500000000; omega)
  | laneSilence l d h => exact absurd ((lanes l).1.symm.trans h) (by simp)
  | streamSilence i d h past =>
    have := silence i d h
    subst this
    exact absurd past (show ¬ 600000000 ≤ 500000000 by decide)
  | quiet i d h => exact absurd ((quietTimer i).symm.trans h) (by simp)
  | timeout i c h => exact absurd ((slots i).symm.trans h) (by simp)
  | claim c h => cases h
  | timeGap got last h => cases h
  | laneGap l got last h => exact absurd ((lanes l).2.1.symm.trans h) (by simp)
  | portGap p got last h => exact absurd ((ports p).1.symm.trans h) (by simp)
  | fastDeadline t sl h runs mem => cases mem
  | fullDeadline t sl h runs mem => cases mem
  | second t h runs fresh =>
    cases h
    exact fresh rfl
  | epoch e h runs fresh =>
    have : (quiet k).currentEpoch = some ⟨6000, 0⟩ := show demo.currentEpoch = some ⟨6000, 0⟩ by decide +kernel
    rw [this] at h
    cases h
    exact absurd (fresh _ rfl) (by decide)
  | draining d h => cases h
  | take r h => cases h
  | serve l h waits => exact waits (lanes l).2.2
  | request p _ h => exact absurd ((ports p).2.symm.trans h) (by simp)

theorem reset_not_due (c : Instr) : ¬ Due State.reset c := by
  have streams : ∀ i : StreamId, State.reset.supervisor.streams[i].silenceTimer = none ∧
      State.reset.supervisor.streams[i].quietTimer = none ∧ State.reset.relay.slots[i] = none := by decide +kernel
  have lanes : ∀ l : LaneId, State.reset.lanes[l].silenceTimer = none ∧ State.reset.lanes[l].rx = .hunting ∧
      State.reset.lanes[l].queue = [] := by decide +kernel
  have ports : ∀ p : PortId, State.reset.ports[p].rx = .hunting ∧ State.reset.ports[p].handler = .idle := by decide +kernel
  intro due
  cases due with
  | laneSilence l d h => exact absurd ((lanes l).1.symm.trans h) (by simp)
  | streamSilence i d h => exact absurd ((streams i).1.symm.trans h) (by simp)
  | quiet i d h => exact absurd ((streams i).2.1.symm.trans h) (by simp)
  | timeout i c h => exact absurd ((streams i).2.2.symm.trans h) (by simp)
  | laneGap l got last h => exact absurd ((lanes l).2.1.symm.trans h) (by simp)
  | portGap p got last h => exact absurd ((ports p).1.symm.trans h) (by simp)
  | serve l h waits => exact waits (lanes l).2.2
  | request p _ h => exact absurd ((ports p).2.symm.trans h) (by simp)
  | _ => contradiction

/-- An event due; and none, with local time running, slewed, held and not set. -/
theorem witness_TimebaseTimersExpire_idle :
    (demo.operating = true ∧ demo.pending = [] ∧ ∃ c, Due demo c) ∧
    (∀ c ∈ [Correction.none, .slew (-200000) 500000000, .pause 500000001], (quiet c).operating = true ∧
      (quiet c).pending = [] ∧ (∀ e, ¬ Due (quiet c) e) ∧ (quiet c).timebase.elapsed + 1 < 2 ^ 64 ∧
      (quiet c).timebase.localTime = some ⟨6000, 0⟩) ∧
    ∃ s : State, s.operating = true ∧ s.pending = [] ∧ (∀ e, ¬ Due s e) ∧ s.timebase.elapsed + 1 < 2 ^ 64 ∧
      s.timebase.localTime = none :=
  ⟨⟨rfl, rfl, .secondBoundary, .second ⟨6000, 0⟩ rfl rfl (by decide)⟩,
    fun c hc => ⟨rfl, rfl, quiet_not_due c
        (by rcases List.mem_cons.mp hc with rfl | hc
            · simp
            rcases List.mem_cons.mp hc with rfl | hc
            · rintro e start h
              cases h
              decide
            · rintro e start h
              simp at hc
              simp [hc] at h)
        (by rcases List.mem_cons.mp hc with rfl | hc
            · simp
            rcases List.mem_cons.mp hc with rfl | hc
            · simp
            · rintro ends h
              simp at hc
              subst hc
              cases h
              decide),
      (by decide : 500000000 + 1 < 2 ^ 64), rfl⟩,
    ⟨State.reset, rfl, rfl, reset_not_due, by decide, rfl⟩⟩

/-- No switch pending, one pending for a later second, no active bank, adaptive with and without a gating peak. -/
theorem witness_SecondBoundaryWork :
    (∃ s : State, s.operating = true ∧ s.timebase.localTime = some ⟨6000, 0⟩ ∧ s.timebase.correction.isPause = false ∧
      s.timebase.lastSecondEvent ≠ some 6000 ∧ s.store.pendingSwitch = some 6001 ∧ s.store.active = some 0 ∧
      (s.store.bank 0).adaptive = false) ∧
    (∃ s : State, s.operating = true ∧ s.timebase.localTime = some ⟨6000, 0⟩ ∧ s.timebase.correction.isPause = false ∧
      s.timebase.lastSecondEvent ≠ some 6000 ∧ s.store.pendingSwitch = none ∧ s.store.active = none) ∧
    (∃ s : State, s.operating = true ∧ s.timebase.localTime = some ⟨8000, 0⟩ ∧ s.timebase.correction.isPause = false ∧
      s.timebase.lastSecondEvent ≠ some 8000 ∧ s.store.pendingSwitch = none ∧ s.store.active = some 1 ∧
      (s.store.bank 1).adaptive = true ∧ GatingPeak (s.store.bank 1) (after .secondBoundary s).supervisor.streams 77500) ∧
    ∃ s : State, s.operating = true ∧ s.timebase.localTime = some ⟨8000, 0⟩ ∧ s.timebase.correction.isPause = false ∧
      s.timebase.lastSecondEvent ≠ some 8000 ∧ s.store.pendingSwitch = none ∧ s.store.active = some 1 ∧
      (s.store.bank 1).adaptive = true ∧ ∀ i : StreamId, (after .secondBoundary s).supervisor.streams[i].health ≠ .live :=
  ⟨⟨{ demo with store := { demo.store with pendingSwitch := some 6001 } }, by decide +kernel⟩,
    ⟨{ demo with store := { demo.store with active := none } }, by decide +kernel⟩,
    ⟨busySecond, by decide +kernel, rfl, rfl, by decide +kernel, rfl, rfl, by decide +kernel, 0, by decide +kernel,
      by decide +kernel, ⟨56000, 41000, 77500⟩, by decide +kernel, rfl⟩,
    ⟨{ busySecond with supervisor := Supervisor.reset }, by decide +kernel⟩⟩

theorem witness_WorstListAtSecond :
    ∃ s : State, s.operating = true ∧ s.timebase.localTime = some ⟨8000, 0⟩ ∧ s.timebase.correction.isPause = false ∧
      s.timebase.lastSecondEvent ≠ some 8000 ∧ s.store.pendingSwitch = none ∧ Listed s.supervisor.streams 5 150000 ∧
      Listed s.supervisor.streams 0 41000 :=
  ⟨busySecond, by decide +kernel, rfl, rfl, by decide +kernel, rfl,
    ⟨.inr (by decide +kernel), ⟨160000, 150000, 310000⟩, by decide +kernel, rfl⟩,
    ⟨.inl (by decide +kernel), ⟨56000, 41000, 80000⟩, by decide +kernel, rfl⟩⟩

/-- A switch to bank B is pending for second 6000. -/
def switching (slots : List Slot) : State :=
  { demo with
    store := { demo.store with pendingSwitch := some 6000 }
    table := { demo.table with slots := slots } }

/-- With and without a non-CLOSED slot of the generation; streams kept, new and removed. -/
theorem witness_SwitchActivates :
    (∃ s : State, s.operating = true ∧ s.timebase.localTime = some ⟨6000, 0⟩ ∧ s.timebase.correction.isPause = false ∧
      s.timebase.lastSecondEvent ≠ some 6000 ∧ s.store.pendingSwitch = some 6000 ∧ s.store.active = some 0 ∧
      s.store.standby ≠ 0 ∧ ∃ sl ∈ s.table.slots, sl.generation = s.store.generation ∧ sl.state ≠ .closed) ∧
    (∃ s : State, s.operating = true ∧ s.timebase.localTime = some ⟨6000, 0⟩ ∧ s.timebase.correction.isPause = false ∧
      s.timebase.lastSecondEvent ≠ some 6000 ∧ s.store.pendingSwitch = some 6000 ∧ s.store.active = some 0 ∧
      s.store.standby ≠ 0 ∧ (∀ sl ∈ s.table.slots, sl.generation = s.store.generation → sl.state = .closed) ∧
      ((s.store.bank 1).enabled 0 = true ∧ (s.store.bank 0).enabled 0 = true ∧
        (s.store.bank 0).station 0 = (s.store.bank 1).station 0) ∧
      ((s.store.bank 1).enabled 1 = true ∧ (s.store.bank 0).station 1 ≠ (s.store.bank 1).station 1) ∧
      (s.store.bank 1).enabled 2 = false) :=
  ⟨⟨switching [slotA 0], by decide +kernel, rfl, rfl, by decide +kernel, rfl, rfl, by decide +kernel, slotA 0,
      by simp [switching], by decide +kernel, by decide +kernel⟩,
    ⟨switching [], by decide +kernel⟩⟩

theorem demo_governs (x : Nat) : Governs demo.store 0 3 x := ⟨0, rfl, .inr (.inr ⟨rfl, rfl, rfl, rfl⟩)⟩

/-- A bank governs second 6000 as the active one, as the pending one at the switch second, and as the draining one before
its switch second. -/
theorem witness_EpochBoundaryOpensSlot :
    (∃ s : State, s.operating = true ∧ s.timebase.localTime = some ⟨6000, 0⟩ ∧ s.timebase.correction.isPause = false ∧
      Governs s.store 0 3 6000 ∧ TableInv s ∧ s.table.slots.length < 512 ∧
      ∀ h, s.table.horizon = some h → EpochKey.older h ⟨6000, 0 * (s.store.bank 0).rate / 1000000000⟩) ∧
    (∃ s : State, s.operating = true ∧ s.timebase.localTime = some ⟨6000, 0⟩ ∧ Governs s.store 1 4 6000 ∧ TableInv s) ∧
    ∃ s : State, s.operating = true ∧ s.timebase.localTime = some ⟨6000, 0⟩ ∧ Governs s.store 1 2 6000 ∧ TableInv s :=
  ⟨⟨demo, rfl, rfl, rfl, demo_governs 6000, demo_table, by decide, fun h hh => by
      cases hh
      decide +kernel⟩,
    ⟨switching [], rfl, rfl, ⟨0, rfl, .inl ⟨6000, rfl, rfl, rfl⟩⟩, table_of_demo rfl rfl rfl⟩,
    ⟨{ demo with store := { demo.store with draining := some ⟨2, 6001⟩ } }, rfl, rfl,
      ⟨0, rfl, .inr (.inl ⟨rfl, ⟨2, 6001⟩, rfl, rfl, rfl⟩)⟩, table_of_demo rfl rfl rfl⟩⟩

/-- The table empty, with H at the current epoch (6000, 0). -/
def opened : State := { demo with table := { demo.table with horizon := some ⟨6000, 0⟩ } }

theorem opened_table : TableInv opened :=
  tableInv_of (by decide +kernel) (by decide +kernel) ⟨6000, 0⟩ (by decide +kernel) (by decide +kernel) (by decide +kernel)
    (by decide +kernel) (by decide +kernel) (by decide +kernel) (by decide +kernel)

theorem demo_epoch : (⟨6000, 0 * (demo.store.bank 0).rate / 1000000000⟩ : EpochKey) = ⟨6000, 0⟩ := by decide +kernel

theorem demo_next : NextEpoch (demo.store.bank 0).rate ⟨6000, 0⟩ ⟨6000, 1⟩ := by
  unfold NextEpoch
  decide +kernel

/-- A record opens the slot of the current epoch, of the epoch after it, and of both. -/
theorem witness_EpochBoundaryOpensSlot_record :
    (∃ s : State, s.operating = true ∧ s.arbiter.handling = some (placedOf 0 0) ∧ TableInv s ∧ s.table.slots = [] ∧
      Governs s.store (placedOf 0 0).bank 3 6000 ∧ ∀ h, s.table.horizon = some h → EpochKey.older h ⟨6000, 0⟩) ∧
    (∃ s : State, s.operating = true ∧ s.arbiter.handling = some (placedOf 0 1) ∧ TableInv s ∧ s.table.slots = [] ∧
      Governs s.store (placedOf 0 1).bank 3 6000 ∧ NextEpoch (s.store.bank 0).rate ⟨6000, 0⟩ (placedOf 0 1).key ∧
      s.table.horizon = some ⟨6000, 0⟩ ∧ ¬ EpochKey.older ⟨6000, 0⟩ ⟨6000, 0⟩ ∧
      EpochKey.older ⟨6000, 0⟩ (placedOf 0 1).key) ∧
    ∃ s : State, s.operating = true ∧ s.arbiter.handling = some (placedOf 0 1) ∧ TableInv s ∧ s.table.slots = [] ∧
      Governs s.store (placedOf 0 1).bank 3 6000 ∧ NextEpoch (s.store.bank 0).rate ⟨6000, 0⟩ (placedOf 0 1).key ∧
      ∀ h, s.table.horizon = some h → EpochKey.older h ⟨6000, 0⟩ :=
  ⟨⟨withPlaced demo _, rfl, rfl, table_of_demo rfl rfl rfl, rfl, demo_governs 6000, fun h hh => by
      cases hh
      decide⟩,
    ⟨withPlaced opened _, rfl, rfl, opened_table, rfl, demo_governs 6000, demo_next, rfl, by decide, by decide⟩,
    ⟨withPlaced demo _, rfl, rfl, table_of_demo rfl rfl rfl, rfl, demo_governs 6000, demo_next, fun h hh => by
      cases hh
      decide⟩⟩

/-- The pair: the current epoch's slot opens first (R65). -/
theorem test_tableTakeRecord_pair :
    (after .tableTakeRecord (withPlaced demo (placedOf 0 1))).table.slots.map Slot.key = [⟨6000, 0⟩, ⟨6000, 1⟩] := by
  decide +kernel

/-- A CLOSED slot with a number of its own. -/
def pastSlot (k : Nat) : Slot :=
  { closedSlot with
    number := Fin.ofNat 512 k
    key := ⟨4000 + k, 0⟩
    fastCut := some ⟨.gating, 359 + k⟩
    fullCut := some ⟨.deadline, 359 + k⟩ }

/-- `n` CLOSED slots. -/
def pastSlots (n : Nat) : List Slot := (List.range n).map pastSlot

theorem mem_pastSlots {n : Nat} {sl : Slot} : sl ∈ pastSlots n ↔ ∃ k, k < n ∧ pastSlot k = sl := by simp [pastSlots]

theorem pastSlots_cons (n : Nat) : pastSlots (n + 1) = pastSlot 0 :: (List.range n).map fun k => pastSlot (k + 1) := by
  simp [pastSlots, List.range_succ_eq_map, Function.comp_def]

theorem pastSlots_pairwise (n : Nat) {R : Slot → Slot → Prop} (h : ∀ a b, a < b → R (pastSlot a) (pastSlot b)) :
    (pastSlots n).Pairwise R := by
  rw [pastSlots, List.pairwise_map]
  exact List.pairwise_lt_range.imp fun {a b} l => h a b l

theorem pastSlots_numbers (n : Nat) {f : Slot → Option Nat} (hf : ∀ k, f (pastSlot k) = some (359 + k)) :
    (pastSlots n).filterMap f = List.range' 359 n := by
  rw [pastSlots, List.filterMap_map, List.range'_eq_map_range, ← List.filterMap_eq_map]
  congr 1
  funext k
  exact hf k

theorem pastSlots_nodup (n : Nat) (h : n ≤ 512) : ((pastSlots n).map Slot.number).Nodup := by
  rw [pastSlots, List.map_map, List.nodup_iff_pairwise_ne, List.pairwise_map]
  refine List.Pairwise.imp_of_mem ?_ (List.pairwise_lt_range (n := n))
  intro a b ha hb l e
  have e' : a % 512 = b % 512 := congrArg Fin.val e
  rw [List.mem_range] at ha hb
  omega

theorem pastSlot_inv (k : Nat) : SlotInv (pastSlot k) :=
  have base := slotInv_of_ok (sl := closedSlot) (by decide +kernel)
  ⟨fun _ => rfl, fun c hc => by cases hc; rfl, fun c hc => by cases hc; rfl, base.2.2.2.1, base.2.2.2.2.1,
    base.2.2.2.2.2.1, fun _ _ _ _ => rfl⟩

/-- A table with CLOSED slots; with 512 of them every slot number is taken. -/
def tableOf (n : Nat) : State := { demo with table := { demo.table with slots := pastSlots n } }

theorem tableOf_table (n : Nat) (h : n ≤ 512) (h' : 359 + n = 871) : TableInv (tableOf n) := by
  refine ⟨fun sl hs => ?_, pastSlots_pairwise n fun a b l => .inl (Nat.add_lt_add_left l 4000), fun sl hs => ?_,
    pastSlots_nodup n h, pastSlots_pairwise n fun _ _ _ _ => rfl, pastSlots_pairwise n fun _ _ _ _ => rfl, ⟨n, ?_, ?_⟩,
    ⟨n, ?_, ?_⟩, fun h => ?_⟩
  · obtain ⟨k, -, rfl⟩ := mem_pastSlots.mp hs
    exact pastSlot_inv k
  · obtain ⟨k, hk, rfl⟩ := mem_pastSlots.mp hs
    refine ⟨⟨5999, 49⟩, rfl, ?_⟩
    have : 4000 + k < 5999 := by omega
    show ¬ (5999 < 4000 + k ∨ 5999 = 4000 + k ∧ _)
    omega
  · show n < 871
    omega
  · show (pastSlots n).filterMap _ = List.range' (871 - n) n
    rw [show 871 - n = 359 by omega]
    exact pastSlots_numbers n fun k => rfl
  · show n < 871
    omega
  · show (pastSlots n).filterMap _ = List.range' (871 - n) n
    rw [show 871 - n = 359 by omega]
    exact pastSlots_numbers n fun k => rfl
  · rcases h with h | h <;> cases h

theorem tableOf_numbers (n : Nat) (h : 512 ≤ n) (m : Fin 512) : ∃ sl ∈ (tableOf n).table.slots, sl.number = m :=
  ⟨pastSlot m.val, mem_pastSlots.mpr ⟨m.val, by omega, rfl⟩, Fin.ext (Nat.mod_eq_of_lt m.isLt)⟩

/-- What the witness below needs of a table of `n + 1` slots. -/
theorem tableOf_recycles (n : Nat) (h : n + 1 ≤ 512) (h' : 359 + (n + 1) = 871) :
    ∃ (s : State) (old : Slot) (rest : List Slot), s.operating = true ∧ s.currentEpoch = some ⟨6000, 0⟩ ∧
      s.timebase.correction.isPause = false ∧ TableInv s ∧ s.table.slots = old :: rest ∧ old.state = .closed ∧
      (∀ m : Fin 512, ∃ sl ∈ s.table.slots, sl.number = m) ∧
      ∀ z, s.table.horizon = some z → EpochKey.older z ⟨6000, 0⟩ :=
  have numbers := tableOf_numbers (n + 1) (by omega)
  have current : demo.currentEpoch = some ⟨6000, 0⟩ := by decide +kernel
  ⟨tableOf (n + 1), pastSlot 0, _, rfl, current, rfl, tableOf_table _ h h', pastSlots_cons n, rfl, numbers, fun z hz => by
    cases hz
    decide⟩

theorem witness_OpeningRecyclesOldest :
    ∃ (s : State) (old : Slot) (rest : List Slot), s.operating = true ∧ s.currentEpoch = some ⟨6000, 0⟩ ∧
      s.timebase.correction.isPause = false ∧ TableInv s ∧ s.table.slots = old :: rest ∧ old.state = .closed ∧
      (∀ m : Fin 512, ∃ sl ∈ s.table.slots, sl.number = m) ∧
      ∀ z, s.table.horizon = some z → EpochKey.older z ⟨6000, 0⟩ :=
  tableOf_recycles 511 (by decide) (by decide)

theorem slotA_table (k : Nat) (sl : Slot) (t : LocalTime) (h : sl = slotA k) (ok : slotOk (slotA k) = true) :
    TableInv (atTime (withSlot demo sl) t) := by
  subst h
  exact withSlot_table (atTime demo t) (slotA k) ok (show 2 ≤ 871 by decide) (show 2 ≤ 871 by decide) (fun c hc => by cases hc)
    (fun c hc => by cases hc) ⟨rfl, rfl⟩

theorem cutSlot_table (t : LocalTime) : TableInv (atTime (withSlot demo cutSlot) t) :=
  withSlot_table (atTime demo t) cutSlot (by decide +kernel) (show 2 ≤ 871 by decide) (show 2 ≤ 871 by decide)
    (fun c hc => by cases hc; rfl) (fun c hc => by cases hc) ⟨rfl, rfl⟩

theorem closedSlot_table (t : LocalTime) : TableInv (atTime (withSlot demo closedSlot) t) :=
  withSlot_table (atTime demo t) closedSlot (by decide +kernel) (show 2 ≤ 871 by decide) (show 2 ≤ 871 by decide)
    (fun c hc => by cases hc; rfl) (fun c hc => by cases hc; rfl) ⟨rfl, rfl⟩

/-- The deadlines at the very instant that local time reaches them, and the two that find their flag set. -/
theorem witness_DeadlinesIssueCuts :
    (∃ (s : State) (sl : Slot), s.operating = true ∧ s.timebase.localTime = some ⟨6000, 40000000⟩ ∧
      s.timebase.correction.isPause = false ∧ TableInv s ∧ s.table.slots = [] ++ sl :: [] ∧ sl.fastCut = none ∧
      sl.fastReady = none ∧ sl.fastDeadline.reached ⟨6000, 40000000⟩ = true ∧
      sl.fastDeadline.reached ⟨6000, 39999990⟩ = false) ∧
    (∃ (s : State) (sl : Slot), s.operating = true ∧ s.timebase.localTime = some ⟨6000, 100000000⟩ ∧
      s.timebase.correction.isPause = false ∧ TableInv s ∧ s.table.slots = [] ++ sl :: [] ∧ sl.fastCut.isSome = true ∧
      sl.fullCut = none ∧ sl.fullReady = none ∧ sl.fullDeadline.reached ⟨6000, 100000000⟩ = true ∧
      sl.fastReady.isSome = true) ∧
    ∃ (s : State) (sl : Slot), s.operating = true ∧ s.timebase.localTime = some ⟨6000, 100000000⟩ ∧
      s.timebase.correction.isPause = false ∧ TableInv s ∧ s.table.slots = [] ++ sl :: [] ∧ sl.fullReady.isSome = true :=
  ⟨⟨atTime (withSlot demo (slotA 0)) _, slotA 0, rfl, rfl, rfl, slotA_table 0 _ _ rfl (by decide +kernel), rfl, rfl, rfl,
      by decide +kernel, by decide +kernel⟩,
    ⟨atTime (withSlot demo cutSlot) _, cutSlot, rfl, rfl, rfl, cutSlot_table _, rfl, rfl, rfl, rfl, by decide +kernel, rfl⟩,
    ⟨atTime (withSlot demo closedSlot) _, closedSlot, rfl, rfl, rfl, closedSlot_table _, rfl, rfl⟩⟩

/-- A stream that the report lists, one that is not expected, and one whose index has no supervised stream under a bank
whose switch was cancelled. -/
theorem witness_DeadlinesIssueCuts_report :
    ((slotA 0).expected.count 3 = 1 ∧ Supervised demo.store (slotA 0).bank 3) ∧ (4 : StreamId) ∉ (slotA 0).expected ∧
      ¬ Supervised demo.store 1 1 := by
  refine ⟨⟨by decide +kernel, .inl rfl⟩, by decide +kernel, ?_⟩
  rintro (h | ⟨a, h, -, -, h'⟩)
  · exact absurd h (by decide)
  · cases h
    exact absurd h' (by decide +kernel)

/-- The index of a standby group that is not enabled has no supervised stream (R117). -/
theorem test_supervised_disabled :
    demo.store.supervised 1 0 = true ∧
      { demo.store with banks := Vector.ofFn (fun b =>
        if b = 0 then bankA else bankOf [50] [[0, 100, 50, 1, 0, 1, 0]]) }.supervised 1 0 = false := by decide +kernel

/-- A generation is draining. -/
def draining (s : State) : State := { s with store := { s.store with draining := some ⟨3, 6000⟩ } }

theorem witness_DrainingEnds :
    (∃ s : State, s.operating = true ∧ s.store.draining = some ⟨3, 6000⟩ ∧
      ∀ sl ∈ s.table.slots, sl.generation = 3 → sl.state = .closed) ∧
    ∃ s : State, s.operating = true ∧ s.store.draining = some ⟨3, 6000⟩ ∧
      ∃ sl ∈ s.table.slots, sl.generation = 3 ∧ sl.state ≠ .closed :=
  ⟨⟨draining (withSlot demo closedSlot), by decide +kernel⟩,
    ⟨draining (withSlot demo cutSlot), rfl, rfl, cutSlot, List.mem_singleton.mpr rfl, rfl, by decide +kernel⟩⟩

/-- With a lane's queue of a length. -/
def queued (n : Nat) (s : State) : State :=
  { s with
    lanes := update s.lanes 0 fun q => { q with queue := List.replicate n (itemOf (recordOf 100 6000 0) ⟨6000, 0⟩) } }

/-- 31 and 32 items queued; one and twelve phasors. -/
theorem witness_ValidLaneFrameQueued :
    (∃ s : State, s.operating = true ∧ s.lanes[(0 : LaneId)].rx = .hunting ∧ s.lanes[(0 : LaneId)].queue.length = 31) ∧
    (∃ s : State, s.operating = true ∧ s.lanes[(0 : LaneId)].rx = .hunting ∧ s.lanes[(0 : LaneId)].queue.length = 32) ∧
    (∃ r : Record, r.phasors.length = 1 ∧ r.analogs.length ≤ 4) ∧
    ∃ r : Record, r.phasors.length = 12 ∧ r.analogs.length = 4 :=
  ⟨⟨queued 31 demo, by decide +kernel⟩, ⟨queued 32 demo, by decide +kernel⟩, ⟨recordOf 100 6000 0, by decide⟩,
    ⟨{ recordOf 100 6000 0 with phasors := List.replicate 12 ⟨0, 0⟩, analogs := List.replicate 4 0 }, by decide⟩⟩

/-- For any frame some check value disagrees. -/
theorem check_disagrees (n : Nat) : ∃ check : List Byte, check.length = 4 ∧ valueOf check ≠ n := by
  by_cases h : n = 0
  · exact ⟨[0, 0, 0, 1], rfl, by simp [valueOf, h]⟩
  · exact ⟨[0, 0, 0, 0], rfl, by simpa [valueOf] using Ne.symm h⟩

/-- The empty payload and one of the greatest length. -/
theorem witness_BadLaneFrameDiscarded :
    (∃ s : State, s.operating = true ∧ s.lanes[(0 : LaneId)].rx = .hunting) ∧
    ∀ n ∈ [0, 106], ∃ payload check : List Byte, payload.length = n ∧ payload.length ≤ 106 ∧ check.length = 4 ∧
      valueOf check ≠ (crc32 (0x01 :: BitVec.ofNat 8 payload.length :: payload)).toNat := by
  refine ⟨⟨demo, by decide +kernel⟩, fun n hn => ?_⟩
  obtain ⟨check, h1, h2⟩ :=
    check_disagrees (crc32 (0x01 :: BitVec.ofNat 8 (List.replicate n (0 : Byte)).length :: List.replicate n 0)).toNat
  refine ⟨List.replicate n 0, check, by simp, ?_, h1, h2⟩
  rcases List.mem_cons.mp hn with rfl | hn
  · simp
  · simp at hn
    simp [hn]

/-- A type that no station sends, a declared length of 107; 0 and 13 phasors, 5 analogs, one byte too many; an
acknowledgment of 5 bytes and one with result 2. -/
theorem witness_BadLaneFrameDiscarded_type :
    106 < (107#8).toNat ∧
    (∀ x ∈ [((0x03 : Byte), List.replicate 24 (0 : Byte)), (0x01, List.replicate 18 0),
        (0x01, List.replicate 10 0 ++ [13] ++ List.replicate 85 0), (0x01, List.replicate 10 0 ++ [1, 5] ++ List.replicate 32 0),
        (0x01, List.replicate 10 0 ++ [1] ++ List.replicate 14 0), (0x02, [0, 0, 0, 0, 0]), (0x02, [0, 0, 0, 2])],
      x.2.length ≤ 106 ∧ (parsePayload x.1 x.2).isSome = false) ∧
    ∀ (frameType : Byte) (payload : List Byte),
      (parsePayload frameType payload).isSome = false → ¬ FitsFrame frameType payload :=
  ⟨by decide, by decide +kernel, fun frameType payload h fits => by
    rw [(parsePayload_isSome frameType payload).mpr fits] at h
    cases h⟩

/-- A stream with a fault, its quiet timer at its end. -/
def faulty : State :=
  demo.updStream 2 fun r => { r with faultCount := 1, quietTimer := some 500000000 }

theorem witness_SilenceAndQuietExpire :
    (∃ s : State, s.operating = true ∧ s.lanes[(1 : LaneId)].silenceTimer = some 500000000 ∧
      500000000 ≤ s.timebase.elapsed) ∧
    (∃ s : State, s.operating = true ∧ s.supervisor.streams[(1 : StreamId)].silenceTimer = some 600000000 ∧
      600000000 ≤ s.timebase.elapsed ∧ s.supervisor.streams[(1 : StreamId)].health.expected = true) ∧
    ∃ s : State, s.operating = true ∧ s.supervisor.streams[(2 : StreamId)].quietTimer = some 500000000 ∧
      500000000 ≤ s.timebase.elapsed :=
  ⟨⟨{ demo with lanes := update demo.lanes 1 fun q => { q with silenceTimer := some 500000000 } }, by decide +kernel⟩,
    ⟨atElapsed demo 600000000, by decide +kernel⟩, ⟨faulty, by decide +kernel⟩⟩

theorem witness_CommandFrameLeaves :
    ∃ (s : State) (f : CommandFrame), s.operating = true ∧ s.lanes[(0 : LaneId)].outbound = f :: [] :=
  ⟨commanded, ⟨100, 0, .halt⟩, by decide +kernel⟩

/-- The acknowledgment of a command, as a queue item. -/
def ackItem (r : AckResult) : QueueItem := ⟨.acknowledgment ⟨100, 0, r⟩, 0, none, 500000000⟩

/-- The item at the head of L0 is the one that the idle arbiter serves from position L0. -/
theorem withItem_serves (s : State) (item : QueueItem) (h : s.arbiter = Arbiter.reset) :
    ArbiterServes (withItem s item) 0 item [] := by
  refine ⟨?_, rfl, 0, ?_, fun j hj => absurd hj (Fin.not_lt_zero j)⟩
  · show s.arbiter.handling = none
    rw [h]
    rfl
  · show (0 : Fin 4) = s.arbiter.position + 0
    rw [h]
    rfl

/-- From position L1 the same item is reached last. -/
theorem witness_ArbiterServes_last :
    ArbiterServes { withItem demo (ackItem .done) with arbiter := ⟨1, none⟩ } 0 (ackItem .done) [] :=
  ⟨rfl, rfl, 3, by decide, by decide +kernel⟩

/-- UNPROVISIONED, local time unset, and an item stamped while local time was unset. -/
theorem witness_ArbiterDropsOutsideAligning :
    (∃ s : State, s.operating = true ∧ ArbiterServes s 0 (itemOf (recordOf 100 6000 0) ⟨6000, 0⟩) [] ∧
      s.store.active = none) ∧
    (∃ s : State, s.operating = true ∧ ArbiterServes s 0 (itemOf (recordOf 100 6000 0) ⟨6000, 0⟩) [] ∧
      s.timebase.localTime = none) ∧
    ∃ s : State, s.operating = true ∧
      ArbiterServes s 0 { itemOf (recordOf 100 6000 0) ⟨6000, 0⟩ with arrivalLocal := none } [] :=
  ⟨⟨withItem unprovisioned _, rfl, withItem_serves unprovisioned _ rfl, rfl⟩,
    ⟨withItem (unsetState (some 0)) _, rfl, withItem_serves (unsetState (some 0)) _ rfl, rfl⟩,
    ⟨withItem demo _, rfl, withItem_serves demo _ rfl⟩⟩

/-- A record with invalid time, of stream 0. -/
def timeless : QueueItem := itemOf { recordOf 100 6000 0 with quality := 15 } ⟨6000, 0⟩

/-- A state whose stream 0 has a health and a fault count. -/
def faultyZero (h : Health) (n : Nat) : State := demo.updStream 0 fun r => { r with health := h, faultCount := n }

theorem demo_places (x : Nat) : PlacementBank demo.store 0 x := ⟨0, rfl, .inr (.inr ⟨rfl, rfl, rfl, fun S h => by cases h⟩)⟩

/-- The conditions that every clause has in common, for any record of station 100: it is at the head of L0. -/
theorem witness_FaultsCountedAndQuarantined (r : Record) :
    ∃ s : State, s.operating = true ∧ ArbiterServes s 0 (itemOf r ⟨6000, 0⟩) [] ∧ s.timebase.localTime = some ⟨6000, 0⟩ ∧
      s.store.active.isSome = true ∧ PlacementBank s.store 0 r.second.toNat ∧ (s.store.bank 0).failing = none ∧
      (s.store.bank 0).enabled 0 = true ∧ (s.store.bank 0).station 0 = 100 ∧ Supervised s.store 0 0 ∧
      s.supervisor.streams[(0 : StreamId)].health.judged = true ∧ s.supervisor.streams[(0 : StreamId)].faultCount < 4 ∧
      s.store.bank 0 = bankA ∧ Governs s.store 0 3 6000 :=
  have bank : (demo.store.bank 0).failing = none ∧ (demo.store.bank 0).enabled 0 = true ∧ (demo.store.bank 0).station 0 = 100 ∧
      demo.supervisor.streams[(0 : StreamId)].health.judged = true ∧
      demo.supervisor.streams[(0 : StreamId)].faultCount < 4 ∧ demo.store.bank 0 = bankA := by decide +kernel
  ⟨withItem demo _, rfl, withItem_serves demo _ rfl, rfl, rfl, demo_places _, bank.1, bank.2.1, bank.2.2.1, .inl rfl,
    bank.2.2.2.1, bank.2.2.2.2.1, bank.2.2.2.2.2, demo_governs 6000⟩

/-- A record older than the last switch, an unknown station, and a stream whose index has no supervised stream. -/
theorem witness_FaultsCountedAndQuarantined_bank :
    (∃ s : State, ArbiterServes s 0 (itemOf (recordOf 100 6000 0) ⟨6000, 0⟩) [] ∧ s.store.active.isSome = true ∧
      ∀ a, ¬ PlacementBank s.store a (recordOf 100 6000 0).second.toNat) ∧
    (∀ i : StreamId, (demo.store.bank 0).enabled i = true → (demo.store.bank 0).station i ≠ (recordOf 999 6000 0).station.toNat) ∧
    ∃ s : State, ArbiterServes s 0 (itemOf (recordOf 104 6000 0) ⟨6000, 0⟩) [] ∧
      PlacementBank s.store 1 (recordOf 104 6000 0).second.toNat ∧ (s.store.bank 1).failing = none ∧
      (s.store.bank 1).enabled 1 = true ∧ (s.store.bank 1).station 1 = 104 ∧ ¬ Supervised s.store 1 1 := by
  refine ⟨⟨withItem { demo with store := { demo.store with lastSwitch := some 6001 } } _, withItem_serves _ _ rfl, rfl, ?_⟩,
    by decide +kernel, withItem (switching []) _, withItem_serves _ _ rfl, ⟨0, rfl, .inl ⟨6000, rfl, rfl⟩⟩,
    by decide +kernel, by decide +kernel, by decide +kernel, ?_⟩
  · rintro a ⟨-, -, ⟨S, h, -⟩ | ⟨-, d, h, -⟩ | ⟨-, -, -, h⟩⟩
    · cases h
    · cases h
    · exact absurd (h 6001 rfl) (by decide)
  · rintro (h | ⟨a, h, -, -, h'⟩)
    · exact absurd h (by decide)
    · cases h
      exact absurd h' (by decide +kernel)

/-- Invalid time twice, a wrong shape, off the grid by one past the tolerance, at the tolerance, and an epoch ahead. -/
theorem witness_FaultsCountedAndQuarantined_record :
    ¬ TimeSound { recordOf 100 6000 0 with quality := 15 } ∧ ¬ TimeSound (recordOf 100 6000 1000000000) ∧
    (TimeSound { recordOf 100 6000 0 with analogs := [0] } ∧ ¬ ShapeFits bankA 0 { recordOf 100 6000 0 with analogs := [0] }) ∧
    (TimeSound (recordOf 100 6000 500001) ∧ ShapeFits bankA 0 (recordOf 100 6000 500001) ∧
      ¬ Sound bankA 0 (recordOf 100 6000 500001)) ∧
    (Sound bankA 0 (recordOf 100 6000 500000) ∧ OnEpoch bankA 0 (recordOf 100 6000 500000) ⟨6000, 0⟩ ∧
      ¬ Ahead bankA.rate ⟨6000, 0⟩ ⟨6000, 0⟩) ∧
    (Sound bankA 0 (recordOf 100 6000 40000000) ∧ OnEpoch bankA 0 (recordOf 100 6000 40000000) ⟨6000, 2⟩ ∧
      gridOf (bankA.streamRate 0) (recordOf 100 6000 40000000) ≠ bankA.streamRate 0 ∧
      Ahead bankA.rate ⟨6000, 0⟩ ⟨6000, 2⟩) := by
  simp only [Sound, TimeSound, ShapeFits, OnEpoch]
  refine ⟨by decide +kernel, by decide +kernel, by decide +kernel, by decide +kernel, ⟨by decide +kernel, by decide +kernel,
    fun h => absurd h.1 (by decide)⟩, by decide +kernel, by decide +kernel, by decide +kernel, by decide, fun n hn => ?_⟩
  have : bankA.rate = 50 := by decide +kernel
  rw [NextEpoch, this] at hn
  simp at hn
  subst hn
  decide

/-- A rollover past the end of the era, one into a second of another bank, and a record between the grid's points. -/
theorem witness_FaultsCountedAndQuarantined_roll :
    (Sound bankA 0 (recordOf 100 4294967295 999999999) ∧
      gridOf (bankA.streamRate 0) (recordOf 100 4294967295 999999999) = bankA.streamRate 0) ∧
    (∃ s : State, s.store.bank 0 = bankA ∧ PlacementBank s.store 0 6000 ∧ ¬ PlacementBank s.store 0 6001 ∧
      Sound bankA 0 (recordOf 100 6000 999999999) ∧
      gridOf (bankA.streamRate 0) (recordOf 100 6000 999999999) = bankA.streamRate 0) ∧
    let slow := bankOf [25, 50, 40, 100, 0, 20, 60, 10, 50, 5, 2, 7] [[1, 100, 100, 1, 1, 1, 0]]
    slow.failing = none ∧ Sound slow 0 (recordOf 100 6000 10000000) ∧
      gridOf (slow.streamRate 0) (recordOf 100 6000 10000000) = 1 ∧ ∀ e, ¬ OnEpoch slow 0 (recordOf 100 6000 10000000) e := by
  simp only [Sound, TimeSound, ShapeFits]
  refine ⟨by decide +kernel, ⟨{ demo with store := { demo.store with pendingSwitch := some 6001 } }, by decide +kernel,
    ⟨0, rfl, .inl ⟨6001, rfl, rfl⟩⟩, ?_, by decide +kernel, by decide +kernel⟩, by decide +kernel, by decide +kernel,
    by decide +kernel, ?_⟩
  · rintro ⟨a, ha, ⟨S, h, hb⟩ | ⟨h, -⟩ | ⟨h, -⟩⟩
    · cases h
      exact absurd (hb : (0 : BankId) = 1) (by decide : ¬ (0 : BankId) = 1)
    · cases h
    · cases h
  · rintro e ⟨-, ⟨-, h, -⟩ | ⟨h, -⟩⟩
    · exact absurd h (by decide +kernel)
    · exact absurd h (by decide +kernel)

/-- QUARANTINED; third and fourth fault. -/
theorem witness_FaultsCountedAndQuarantined_counts :
    ∀ x ∈ [(Health.quarantined, 4), (.live, 2), (.live, 3)], ∃ s : State,
      s.operating = true ∧ ArbiterServes s 0 timeless [] ∧ PlacementBank s.store 0 6000 ∧ Supervised s.store 0 0 ∧
      s.supervisor.streams[(0 : StreamId)].health = x.1 ∧ s.supervisor.streams[(0 : StreamId)].faultCount = x.2 := by
  intro x hx
  refine ⟨withItem (faultyZero x.1 x.2) timeless, rfl, withItem_serves (faultyZero x.1 x.2) timeless rfl, demo_places _,
    .inl rfl, ?_, ?_⟩
  · revert x
    decide +kernel
  · revert x
    decide +kernel

/-- A record at the very tolerance of 500 µs. -/
theorem witness_PlacedWithinTolerance :
    ∃ (s : State) (item : QueueItem) (arrival : LocalTime) (r : Record) (placed : PlacedRecord),
      s.place item arrival r = .placed placed ∧ placed.deltaNs = 500000 ∧
      0 < (s.store.bank placed.bank).streamRate placed.stream ∧
      (s.store.bank placed.bank).rate % (s.store.bank placed.bank).streamRate placed.stream = 0 ∧
      0 < (s.store.bank placed.bank).rate := by
  have h : ∃ placed, demo.place (itemOf (recordOf 100 6000 500000) ⟨6000, 0⟩) ⟨6000, 0⟩ (recordOf 100 6000 500000)
      = .placed placed ∧ placed.deltaNs = 500000 ∧ placed.bank = 0 ∧ placed.stream = 0 := by
    refine ⟨completeRecord bankA 0 0 true ⟨6000, 0⟩ 500000 (itemOf (recordOf 100 6000 500000) ⟨6000, 0⟩) ⟨6000, 0⟩
      (recordOf 100 6000 500000), by decide +kernel, rfl, rfl, rfl⟩
  obtain ⟨placed, h1, h2, h3, h4⟩ := h
  refine ⟨demo, _, _, _, placed, h1, h2, ?_⟩
  rw [h3, h4]
  decide +kernel

/-- The second part: station 100 on the grid's point of the current epoch. -/
theorem witness_PlacedWithinTolerance_handedOn :
    ∃ s : State, s.operating = true ∧ ArbiterServes s 0 (itemOf (recordOf 100 6000 500000) ⟨6000, 0⟩) [] ∧
      s.timebase.localTime = some ⟨6000, 0⟩ ∧ PlacementBank s.store 0 6000 ∧ Governs s.store 0 3 6000 ∧
      s.store.bank 0 = bankA ∧ bankA.failing = none ∧ bankA.enabled 0 = true ∧ bankA.station 0 = 100 ∧
      s.supervisor.streams[(0 : StreamId)].health = .live ∧ Sound bankA 0 (recordOf 100 6000 500000) ∧
      OnEpoch bankA 0 (recordOf 100 6000 500000) ⟨6000, 0⟩ ∧
      gridOf (bankA.streamRate 0) (recordOf 100 6000 500000) ≠ bankA.streamRate 0 ∧ ¬ Ahead bankA.rate ⟨6000, 0⟩ ⟨6000, 0⟩ :=
  have r := witness_FaultsCountedAndQuarantined_record.2.2.2.2.1
  ⟨withItem demo _, rfl, withItem_serves demo _ rfl, rfl, demo_places _, demo_governs _, by decide +kernel, by decide +kernel,
    by decide +kernel, by decide +kernel, by decide +kernel, r.1, r.2.1, by decide +kernel, r.2.2⟩

/-- The command of `commanded`, and its acknowledgment: DONE, REFUSED, and one stamped at the moment of issue. -/
def halting : CommandSlot := ⟨.halt, 1, 100, 0, 0, 500000000, 700000000⟩

/-- A state with one PENDING command. -/
def pendingWith (c : CommandSlot) (s : State) : State :=
  { s with relay := { s.relay with slots := update s.relay.slots 0 fun _ => some c } }

theorem pendingWith_alone (c : CommandSlot) (s : State) (h : s.relay = Relay.reset) :
    (pendingWith c s).relay.slots[(0 : StreamId)] = some c ∧
      ∀ j : StreamId, ∀ d, j ≠ 0 → (pendingWith c s).relay.slots[j] = some d → d.station ≠ c.station := by
  refine ⟨by simp [pendingWith, update], fun j d hj hd => ?_⟩
  have e : (pendingWith c s).relay.slots[j] = none := by
    simp [pendingWith, h, update, hj, Relay.reset]
  rw [e] at hd
  cases hd

/-- The effect applies (HALT, RESUME of a HALTED stream), or not (REFUSED). -/
theorem witness_AcknowledgmentCompletes :
    ∀ x ∈ [(Action.halt, AckResult.done, Health.live), (.resume, .done, .halted), (.halt, .refused, .live)], ∃ s : State,
      s.operating = true ∧ ArbiterServes s 0 (ackItem x.2.1) [] ∧
      s.relay.slots[(0 : StreamId)] = some { halting with action := x.1 } ∧ halting.issued ≤ (ackItem x.2.1).arrivalElapsed ∧
      (∀ j : StreamId, ∀ d, j ≠ 0 → s.relay.slots[j] = some d → d.station ≠ halting.station) ∧
      s.store.activeStation 0 = some halting.station ∧ s.supervisor.streams[(0 : StreamId)].health = x.2.2 := by
  intro x hx
  have health : (faultyZero x.2.2 0).supervisor.streams[(0 : StreamId)].health = x.2.2 := by
    revert x
    decide +kernel
  have alone := pendingWith_alone { halting with action := x.1 } (faultyZero x.2.2 0) rfl
  have station : demo.store.activeStation 0 = some 100 := by decide +kernel
  generalize hs : pendingWith { halting with action := x.1 } (faultyZero x.2.2 0) = s at alone
  have arbiter : s.arbiter = Arbiter.reset := by rw [← hs]; rfl
  have store : s.store = demo.store := by rw [← hs]; rfl
  have supervisor : s.supervisor = (faultyZero x.2.2 0).supervisor := by rw [← hs]; rfl
  have supply : s.operating = true := by rw [← hs]; rfl
  refine ⟨withItem s (ackItem x.2.1), supply, withItem_serves s (ackItem x.2.1) arbiter, alone.1, Nat.le_refl _, alone.2,
    ?_, ?_⟩
  · rw [show (withItem s (ackItem x.2.1)).store = demo.store from store]
    exact station
  · rw [show (withItem s (ackItem x.2.1)).supervisor = (faultyZero x.2.2 0).supervisor from supervisor]
    exact health

/-- No command PENDING; another tag; an arrival before the issue. -/
theorem witness_AcknowledgmentCompletes_none :
    (∃ s : State, s.operating = true ∧ ArbiterServes s 0 (ackItem .done) [] ∧ ∀ i : StreamId, s.relay.slots[i] = none) ∧
    (({ halting with tag := 1 } : CommandSlot).tag ≠ 0) ∧
      ¬ { halting with issued := 500000001 }.issued ≤ (ackItem .done).arrivalElapsed :=
  ⟨⟨withItem demo (ackItem .done), rfl, withItem_serves demo _ rfl, by decide +kernel⟩, by decide, by decide⟩

/-- RESUME of a HALTED stream: AWAITING, its faults forgotten, its tracker kept (R99). -/
theorem test_acknowledgment_resume :
    let t := (after .arbiterTake (withItem (pendingWith { halting with action := .resume } (faultyZero .halted 4)) (ackItem .done)))
    (t.supervisor.streams[(0 : StreamId)].health, t.supervisor.streams[(0 : StreamId)].faultCount,
      t.supervisor.streams[(0 : StreamId)].silenceTimer, t.supervisor.streams[(0 : StreamId)].tracker)
      = (.awaiting, 0, some 1000000000, some ⟨56000, 41000, 80000⟩) := by decide +kernel

/-- The first entry of an OPEN slot and of a FAST_CUT slot. -/
theorem witness_RecordStoredAndAccepted :
    (∃ s : State, s.operating = true ∧ s.arbiter.handling = some (placedOf 0 0) ∧ TableInv s ∧
      ∃ sl ∈ s.table.slots, sl.key = (placedOf 0 0).key ∧ sl.fullCut = none ∧ sl.bank = (placedOf 0 0).bank ∧
        sl.entries[(placedOf 0 0).stream] = none ∧ sl.fastCut = none ∧ (placedOf 0 0).supervised = true ∧
        s.supervisor.streams[(placedOf 0 0).stream].health.judged = true) ∧
    ∃ s : State, s.operating = true ∧ s.arbiter.handling = some (placedOf 0 0) ∧ TableInv s ∧
      ∃ sl ∈ s.table.slots, sl.key = (placedOf 0 0).key ∧ sl.fullCut = none ∧ sl.bank = (placedOf 0 0).bank ∧
        sl.entries[(placedOf 0 0).stream] = none ∧ sl.fastCut.isSome = true :=
  ⟨⟨withPlaced (withSlot demo (slotA 0)) (placedOf 0 0), rfl, rfl, slotA_table 0 _ ⟨6000, 0⟩ rfl (by decide +kernel),
      slotA 0, List.mem_singleton.mpr rfl, by decide +kernel⟩,
    ⟨withPlaced (withSlot demo cutSlot) (placedOf 0 0), rfl, rfl, cutSlot_table ⟨6000, 0⟩,
      cutSlot, List.mem_singleton.mpr rfl, by decide +kernel⟩⟩

/-- AWAITING and SILENT; a silence timer that is past at the acceptance (5 s after elapsed time 0), and one that is not. -/
theorem witness_RecordStoredAndAccepted_stream :
    (∀ h ∈ [Health.awaiting, .silent], (faultyZero h 0).supervisor.streams[(0 : StreamId)].health = h ∧ h.judged = true) ∧
    (StreamRecord.unconfigured.tracker = none ∧ demo.supervisor.streams[(0 : StreamId)].tracker = some ⟨56000, 41000, 80000⟩) ∧
    (demo.store.active = some 0 ∧
      max (demo.supervisor.streams[(0 : StreamId)].lastAccepted.getD 0) ({ placedOf 0 0 with arrivalElapsed := 0 }).arrivalElapsed
        + (demo.store.bank 0).silenceLimit * 100000000 ≤ demo.timebase.elapsed ∧
      demo.timebase.elapsed < max (demo.supervisor.streams[(0 : StreamId)].lastAccepted.getD 0) (placedOf 0 0).arrivalElapsed
        + (demo.store.bank 0).silenceLimit * 100000000) := by decide +kernel

/-- Two slots, neither of them ready. -/
def twoSlots : State :=
  { demo with
    table := { demo.table with slots := [slotA 0, { slotA 1 with number := 1 }], horizon := some ⟨6000, 1⟩ } }

theorem twoSlots_table : TableInv twoSlots :=
  tableInv_of (by decide +kernel) (by decide +kernel) ⟨6000, 1⟩ (by decide +kernel) (by decide +kernel) (by decide +kernel)
    (by decide +kernel) (by decide +kernel) (by decide +kernel) (by decide +kernel)

/-- A slot behind one that is not ready; and a slot behind none. -/
theorem witness_RecordStoredAndAccepted_release :
    ∃ s : State, s.operating = true ∧ s.arbiter.handling = some (placedOf 0 1) ∧ TableInv s ∧ ∃ o sl : Slot,
      s.table.slots = [o] ++ sl :: [] ∧ sl.key = (placedOf 0 1).key ∧ sl.fullCut = none ∧ sl.bank = 0 ∧
      sl.entries[(placedOf 0 1).stream] = none ∧ o.fastCut = none ∧ o.fastReady = none :=
  ⟨withPlaced twoSlots (placedOf 0 1), rfl, rfl, twoSlots_table, slotA 0, { slotA 1 with number := 1 }, rfl, by decide +kernel⟩

/-- The record that completes the second slot leaves it waiting for the first (R80). -/
theorem test_tableTakeRecord_waits :
    let s := after .tableTakeRecord (withPlaced (after .tableTakeRecord (withPlaced twoSlots (placedOf 0 1))) (placedOf 1 1))
    s.table.slots.map (fun sl => (sl.fastReady, sl.fastCut)) = [(none, none), (some .gating, none)] := by decide +kernel

/-- A slot that holds the entry of stream 0. -/
def filledSlot : Slot := { slotA 0 with entries := update (slotA 0).entries 0 fun _ => some ((placedOf 0 0).entry false) }

theorem filledSlot_table (t : LocalTime) : TableInv (atTime (withSlot demo filledSlot) t) :=
  withSlot_table (atTime demo t) filledSlot (by decide +kernel) (show 2 ≤ 871 by decide) (show 2 ≤ 871 by decide)
    (fun c hc => by cases hc) (fun c hc => by cases hc) ⟨rfl, rfl⟩

/-- A CLOSED slot, another bank, an equal copy and a differing copy. -/
theorem witness_DuplicateAndConflict :
    (∃ s : State, s.operating = true ∧ s.arbiter.handling = some (placedOf 0 0) ∧ TableInv s ∧
      ∃ sl ∈ s.table.slots, sl.key = (placedOf 0 0).key ∧ sl.fullCut.isSome = true) ∧
    (∃ s : State, s.operating = true ∧ s.arbiter.handling = some { placedOf 0 0 with bank := 1 } ∧ TableInv s ∧
      ∃ sl ∈ s.table.slots, sl.key = (placedOf 0 0).key ∧ sl.bank ≠ 1) ∧
    (∃ s : State, s.operating = true ∧ s.arbiter.handling = some (placedOf 0 0) ∧ TableInv s ∧
      ∃ sl ∈ s.table.slots, sl.key = (placedOf 0 0).key ∧ sl.fullCut = none ∧ sl.bank = (placedOf 0 0).bank ∧
        ∃ e, sl.entries[(placedOf 0 0).stream] = some e ∧ e.record = (placedOf 0 0).record) ∧
    ∃ s : State, ∃ r, s.operating = true ∧ s.arbiter.handling = some r ∧ TableInv s ∧ r.supervised = true ∧
      (∃ sl ∈ s.table.slots, sl.key = r.key ∧ sl.fullCut = none ∧ sl.bank = r.bank ∧
        ∃ e, sl.entries[r.stream] = some e ∧ e.record ≠ r.record) ∧
      s.supervisor.streams[r.stream].health.judged = true ∧ s.supervisor.streams[r.stream].faultCount < 3 :=
  ⟨⟨withPlaced (withSlot demo closedSlot) _, rfl, rfl, closedSlot_table ⟨6000, 0⟩, closedSlot, List.mem_singleton.mpr rfl,
      by decide +kernel⟩,
    ⟨withPlaced (withSlot demo filledSlot) _, rfl, rfl, filledSlot_table ⟨6000, 0⟩, filledSlot, List.mem_singleton.mpr rfl,
      by decide +kernel⟩,
    ⟨withPlaced (withSlot demo filledSlot) _, rfl, rfl, filledSlot_table ⟨6000, 0⟩, filledSlot, List.mem_singleton.mpr rfl,
      by decide +kernel, by decide +kernel, by decide +kernel, (placedOf 0 0).entry false, by decide +kernel⟩,
    ⟨withPlaced (withSlot demo filledSlot) { placedOf 0 0 with record := recordOf 100 6000 9 }, _, rfl, rfl,
      filledSlot_table ⟨6000, 0⟩, rfl, ⟨filledSlot, List.mem_singleton.mpr rfl, by decide +kernel, by decide +kernel,
      by decide +kernel, (placedOf 0 0).entry false, by decide +kernel⟩, by decide +kernel⟩⟩

theorem filledSlot_entry : filledSlot.entries[(0 : StreamId)] = some ((placedOf 0 0).entry false) := by decide +kernel

theorem filledSlot_fits : filledSlot.key = ⟨6000, 0⟩ ∧ filledSlot.fullCut = none ∧ filledSlot.bank = 0 := by decide +kernel

theorem differing_record : ((placedOf 0 0).entry false).record ≠ recordOf 100 6000 9 := by decide +kernel

theorem faultyZero_stream (h : Health) (n : Nat) : (faultyZero h n).supervisor.streams[(0 : StreamId)].health = h ∧
    (faultyZero h n).supervisor.streams[(0 : StreamId)].faultCount = n := by
  simp [faultyZero, State.updStream, update]

/-- A differing copy at a stream in any health, with and without a supervised stream; the fourth fault is at count 3. -/
theorem witness_DuplicateAndConflict_health (h : Health) (b : Bool) :
    ∃ (s : State) (r : PlacedRecord), s.operating = true ∧ s.arbiter.handling = some r ∧ TableInv s ∧ r.supervised = b ∧
      (∃ sl ∈ s.table.slots, sl.key = r.key ∧ sl.fullCut = none ∧ sl.bank = r.bank ∧
        ∃ e, sl.entries[r.stream] = some e ∧ e.record ≠ r.record) ∧
      s.supervisor.streams[r.stream].health = h ∧ s.supervisor.streams[r.stream].faultCount = 3 :=
  ⟨withPlaced (withSlot (faultyZero h 3) filledSlot) { placedOf 0 0 with supervised := b, record := recordOf 100 6000 9 }, _, rfl,
    rfl, table_of (filledSlot_table ⟨6000, 0⟩) (by simp [withPlaced, withSlot, atTime, faultyZero, State.updStream])
      (by simp [withPlaced, withSlot, faultyZero, demo, State.updStream])
      (by simp [withPlaced, withSlot, faultyZero, demo, State.updStream]), rfl,
    ⟨filledSlot, List.mem_singleton.mpr rfl, filledSlot_fits.1, filledSlot_fits.2.1, filledSlot_fits.2.2,
      (placedOf 0 0).entry false, filledSlot_entry, differing_record⟩,
    (faultyZero_stream h 3).1, (faultyZero_stream h 3).2⟩

theorem witness_CommandAndClaimTimeOut :
    (∃ s : State, s.operating = true ∧ s.relay.slots[(0 : StreamId)] = some halting ∧ halting.timeout ≤ s.timebase.elapsed) ∧
    ∃ s : State, ∃ c, s.operating = true ∧ s.store.claim = some c ∧ c.expires ≤ s.timebase.elapsed :=
  ⟨⟨pendingWith halting (atElapsed demo 700000000), by decide +kernel⟩,
    ⟨atElapsed editor 900000000, ⟨0, 900000000⟩, by decide +kernel⟩⟩

/-! #### The link -/

theorem witness_RequestDecodesAsEncoded :
    Instr.WellFormed (.setMask 2 7 15 (List.replicate 15 255)) = true ∧
      encodeRequest (.setMask 2 7 15 (List.replicate 15 255)) = some (2, 7, 0x03, 15 :: List.replicate 15 255) ∧
      Instr.WellFormed (.profilePut 0 0 (List.replicate 64 0xFFFFFFFF)) = true ∧
      (encodeRequest (.profilePut 0 0 (List.replicate 64 0xFFFFFFFF))).isSome = true := by decide +kernel

theorem witness_RequestFrameTakenInHand :
    ∃ (s : State) (c : Instr), Serves s 2 ∧ s.ports[(2 : PortId)].rx = .hunting ∧ c.WellFormed = true ∧
      encodeRequest c = some (2, 9, 0x0B, [64]) :=
  ⟨demo, .profileGet 2 9 64, demo_serves 2, by decide +kernel⟩

/-- A port that is EXECUTING, with two and with three BUSY answers waiting. -/
def busyPort (n : Nat) : State :=
  { demo with
    ports := update demo.ports 2 fun q =>
      { q with handler := .responding, outbound := List.replicate n ⟨1, .bare .busy, false⟩ } }

theorem witness_ExecutingPortAnswersBusy :
    ∀ n ∈ [2, 3], ∃ s : State, s.operating = true ∧ s.ports[(2 : PortId)].handler ≠ .idle ∧
      s.ports[(2 : PortId)].rx = .hunting ∧ (s.ports[(2 : PortId)].outbound.countP fun f => !f.ofRequest) = n := by
  intro n hn
  refine ⟨busyPort n, rfl, ?_⟩
  revert n
  decide +kernel

/-- A code that names no request, a length that a code does not call for, a check value that disagrees, and a declared
length of 8193. -/
theorem witness_ExecutingPortAnswersBusy_bad :
    demo.operating = true ∧ demo.ports[(2 : PortId)].handler = .idle ∧ demo.ports[(2 : PortId)].rx = .hunting ∧
    ¬ FitsCode 0x77 0 ∧ ¬ FitsCode 0x01 1 ∧ ¬ FitsCode 0x0C 3 ∧ ¬ FitsCode 0x0C 260 ∧
    (∃ check : List Byte, check.length = 2 ∧ valueOf check ≠ (crc16 [1, 2, 0, 0]).toNat) ∧
    8192 < valueOf [0x20, 0x01] := by
  refine ⟨rfl, by decide +kernel, by decide +kernel, ?_, ?_, ?_, ?_, ⟨[0, 0], by decide +kernel⟩, by decide⟩
  · rintro (h | ⟨h, -⟩)
    · exact absurd h (by decide)
    · exact absurd h (by decide)
  · rintro (h | ⟨h, -⟩)
    · exact absurd h (by decide)
    · exact absurd h (by decide)
  · rintro (h | ⟨-, k, h⟩)
    · exact absurd h (by decide)
    · omega
  · rintro (h | ⟨-, k, h⟩)
    · exact absurd h (by decide)
    · omega

/-- Three bytes of noise at a skipped-byte count that wraps (R157). -/
theorem witness_ExecutingPortAnswersBusy_noise :
    demo.operating = true ∧ demo.ports[(2 : PortId)].rx = .hunting ∧ (∀ b ∈ [(0x59 : Byte), 0x5B, 0], b ≠ 0x5A) ∧
    (after (.requestFrameArrival 2 [.byte 0x59, .byte 0x5B, .byte 0]) { demo with ports := update demo.ports 2 fun q =>
      { q with skippedCount := 4294967295 } }).ports[(2 : PortId)].skippedCount = 2 := by decide +kernel

theorem witness_ResponseLeaves :
    ∃ (s : State) (f : OutFrame), s.operating = true ∧ s.ports[(2 : PortId)].outbound = f :: [] :=
  ⟨busyPort 1, ⟨1, .bare .busy, false⟩, by decide +kernel⟩

theorem witness_StatusReportsTheBlocks : ∃ s : State, Serves s 1 ∧ s.table.slots.length ≤ 512 :=
  ⟨demo, demo_serves 1, by decide +kernel⟩

theorem witness_ReadConditionsClearsLatched : ∃ s : State, Serves s 0 ∧ s.ports[(0 : PortId)].latched ≠ 0 :=
  ⟨demo.latchAll .conflict, by decide +kernel⟩

/-- All fifteen kinds; sixteen named; a code that names none; a kind named twice. -/
theorem witness_SetMaskReplacesMask :
    Serves demo 0 ∧
    (∃ (count : Byte) (kinds : List Byte), kinds.length = 15 ∧ count.toNat = 15 ∧
      (∀ c ∈ kinds.take count.toNat, c.toNat < 15) ∧ (kinds.take count.toNat).Nodup) ∧
    (∃ (count : Byte) (kinds : List Byte), kinds.length = 15 ∧ count.toNat = 16) ∧
    (∃ (count : Byte) (kinds : List Byte), kinds.length = 15 ∧ ∃ c ∈ kinds.take count.toNat, c.toNat = 15) ∧
    ∃ (count : Byte) (kinds : List Byte), kinds.length = 15 ∧ ¬ (kinds.take count.toNat).Nodup :=
  ⟨demo_serves 0, ⟨15, [0, 1, 2, 3, 4, 5, 6, 7, 8, 9, 10, 11, 12, 13, 14], by decide⟩,
    ⟨16, List.replicate 15 0, by decide⟩, ⟨1, 15 :: List.replicate 14 0, by decide⟩,
    ⟨2, List.replicate 15 3, by decide⟩⟩

/-- The whole filter; and each value out of its range by one. -/
theorem witness_SubscribeSetsReadingState :
    Serves demo 0 ∧
    (∃ (kinds start count : Byte) (indices : List Byte), indices.length = 48 ∧ kinds.toNat = 3 ∧ start.toNat = 1 ∧
      count.toNat = 48 ∧ (∀ c ∈ indices.take count.toNat, c.toNat < 48) ∧ (indices.take count.toNat).Nodup) ∧
    (∃ kinds start count : Byte, kinds.toNat = 4 ∧ start.toNat = 2 ∧ count.toNat = 49) ∧
    (∃ indices : List Byte, indices.length = 48 ∧ ∃ c ∈ indices.take 1, c.toNat = 48) ∧
    ∃ indices : List Byte, indices.length = 48 ∧ ¬ (indices.take 2).Nodup :=
  ⟨demo_serves 0, ⟨3, 1, 48, (List.range 48).map (BitVec.ofNat 8), by decide +kernel⟩, ⟨4, 2, 49, by decide⟩,
    ⟨List.replicate 48 48, by decide +kernel⟩, ⟨List.replicate 48 0, by decide +kernel⟩⟩

/-- CP0 subscribed to both kinds with both cursors at `n`. -/
def readerAt (n : Nat) (s : State) : State :=
  { s with
    ports := update s.ports 0 fun q =>
      { q with subFast := true, subFull := true, fastCursor := n, fullCursor := n, filter := [0, 4] } }

/-- Every row of R164 for either kind: the cursor at the next number, at a retained one, before the oldest, and with no
run; and a kind that names none. -/
theorem witness_ReadNextFollowsCursor (k : SnapKind) :
    (1 < (2#8).toNat) ∧
    (∃ s : State, Serves s 0 ∧ TableInv s ∧ subscribedTo k s.ports[(0 : PortId)] = false) ∧
    (∀ n ∈ [871, 870, 869], ∃ s : State, Serves s 0 ∧ TableInv s ∧ subscribedTo k s.ports[(0 : PortId)] = true ∧
      cursorOf k s.ports[(0 : PortId)] = n ∧ nextOf k s.table = 871 ∧ (numbersOf k s.table).head? = some 870) ∧
    ∃ s : State, Serves s 0 ∧ TableInv s ∧ subscribedTo k s.ports[(0 : PortId)] = true ∧
      cursorOf k s.ports[(0 : PortId)] < nextOf k s.table ∧ numbersOf k s.table = [] := by
  have serves : ∀ n ∈ [871, 870, 869], Serves (readerAt n (withSlot demo closedSlot)) 0 := by decide +kernel
  have rows : ∀ n ∈ [871, 870, 869],
      subscribedTo k (readerAt n (withSlot demo closedSlot)).ports[(0 : PortId)] = true ∧
        cursorOf k (readerAt n (withSlot demo closedSlot)).ports[(0 : PortId)] = n ∧
        nextOf k (withSlot demo closedSlot).table = 871 ∧ (numbersOf k (withSlot demo closedSlot).table).head? = some 870 := by
    cases k <;> decide +kernel
  refine ⟨by decide, ⟨demo, demo_serves 0, demo_table, by cases k <;> decide +kernel⟩,
    fun n hn => ⟨readerAt n (withSlot demo closedSlot), serves n hn, closedSlot_table ⟨6000, 0⟩, rows n hn⟩,
    ⟨readerAt 870 demo, by decide +kernel, table_of_demo rfl rfl rfl, by cases k <;> decide +kernel⟩⟩

/-- A CLOSED slot with a LATE entry of stream 0, whose conflict came after the fast cut. -/
def lateSlot : Slot :=
  { closedSlot with
    entries := update closedSlot.entries 0 fun _ => some { (placedOf 0 0).entry true with mark := .afterFastCut } }

/-- A bad kind, a bad target; for either kind the next number, one not retained, and a retained one, of a slot with a LATE
entry. -/
theorem witness_ReadSequenceDelivers (k : SnapKind) :
    (1 < (2#8).toNat ∧ (1 : Byte) ≠ 0) ∧ ((2 : Byte) ≠ 0 ∧ (2 : Byte) ≠ 1) ∧
    ∃ s : State, Serves s 0 ∧ TableInv s ∧ nextOf k s.table ≤ (871#48).toNat ∧
      ((869#48).toNat < nextOf k s.table ∧ (869#48).toNat ∉ numbersOf k s.table) ∧
      ∃ sl ∈ s.table.slots, ∃ cut, cutOf k sl = some cut ∧ cut.seq = (870#48).toNat ∧
        (∃ e, sl.entries[(0 : StreamId)] = some e ∧ e.late = true) ∧ sl.entries[(1 : StreamId)] = none := by
  refine ⟨by decide, by decide, withSlot demo lateSlot, by decide +kernel, ?_, ?_, ?_, lateSlot, List.mem_singleton.mpr rfl, ?_⟩
  · exact withSlot_table demo lateSlot (by decide +kernel) (by decide +kernel) (by decide +kernel)
      (fun c hc => by cases hc; rfl) (fun c hc => by cases hc; rfl) ⟨rfl, rfl⟩
  · cases k <;> decide +kernel
  · cases k <;> decide +kernel
  · have entries : (∃ e, lateSlot.entries[(0 : StreamId)] = some e ∧ e.late = true) ∧
        lateSlot.entries[(1 : StreamId)] = none :=
      ⟨⟨{ (placedOf 0 0).entry true with mark := .afterFastCut }, by decide +kernel, rfl⟩, by decide +kernel⟩
    cases k
    · exact ⟨_, rfl, rfl, entries⟩
    · exact ⟨_, rfl, rfl, entries⟩

/-- The fast view hides the LATE entry and its conflict, and the full view shows both (R167). -/
theorem test_readSnapshotSequence_views :
    let forms := fun kind => match replyTo (.readSnapshotSequence 0 1 kind 1 870)
        { withSlot demo lateSlot with ports := update demo.ports 0 fun q => { q with filter := [0] } } with
      | some (.ok, .snapshot v) => (v.items.map fun it => match it.form with
        | .entry _ _ late conflict _ => (late, conflict)
        | _ => (false, false))
      | _ => []
    forms 0 = [(false, false)] ∧ forms 1 = [(true, true)] := by decide +kernel

theorem witness_ReadsChangeNoBlock :
    Serves demo 1 ∧ (48 ≤ (48#8).toNat) ∧ (47 : StreamId).val = (47#8).toNat ∧
      ∀ i ∈ demo.supervisor.worst, demo.supervisor.streams[i].tracker.isSome = true :=
  ⟨demo_serves 1, by decide, by decide, by decide +kernel⟩

/-! #### Profiles -/

/-- Each cursor value at its last code and one past it; a run of the twelve global items; ACTIVE and STANDBY. -/
theorem witness_ProfileCursorAndGet :
    Serves editor 0 ∧ (∃ selector mode : Byte, selector.toNat = 1 ∧ mode.toNat = 2) ∧
    (∃ selector mode : Byte, selector.toNat = 2 ∧ mode.toNat = 3) ∧
    (∃ s : State, Serves s 0 ∧ s.ports[(0 : PortId)].cursor.selector = .active ∧ s.store.active = some 0 ∧
      ∀ k, k < 1 → (itemPlace (s.ports[(0 : PortId)].cursor.address + k)).isSome = true) ∧
    ∃ s : State, Serves s 0 ∧ s.ports[(0 : PortId)].cursor.selector = .standby ∧
      ∀ k, k < 12 → (itemPlace (s.ports[(0 : PortId)].cursor.address + k)).isSome = true :=
  ⟨by decide +kernel, ⟨1, 2, by decide⟩, ⟨2, 3, by decide⟩, ⟨editor, by decide +kernel⟩,
    ⟨{ demo with ports := update demo.ports 0 fun q => { q with cursor := ⟨.standby, 0, .none⟩ } }, by decide +kernel⟩⟩

/-- A count of 0 and of 65; ACTIVE with no active bank; a run over the gap after the global items. -/
theorem witness_ProfileCursorAndGet_refused :
    (0#8).toNat < 1 ∧ 64 < (65#8).toNat ∧
    (Serves unprovisioned 0 ∧ unprovisioned.ports[(0 : PortId)].cursor.selector = .active ∧ unprovisioned.store.active = none) ∧
    (Serves editor 0 ∧ editor.ports[(0 : PortId)].cursor.selector = .active ∧ editor.store.active = some 0 ∧
      ∃ k, k < (2#8).toNat ∧ itemPlace (editor.ports[(0 : PortId)].cursor.address + k) = none) :=
  ⟨by decide, by decide, by decide +kernel, by decide +kernel, by decide +kernel, rfl, 1, by decide, by decide +kernel⟩

/-- No claim, a run over the gap after the global items, and a run inside them. -/
theorem witness_ProfilePutWritesStandby :
    (Serves demo 0 ∧ ∀ c, demo.store.claim = some c → c.holder ≠ 0) ∧
    (∃ s : State, ∃ c, Serves s 0 ∧ s.store.claim = some c ∧ c.holder = 0 ∧
      ∃ k, k < 2 ∧ itemPlace (s.ports[(0 : PortId)].cursor.address + k) = none) ∧
    ∃ s : State, ∃ c, Serves s 0 ∧ s.store.claim = some c ∧ c.holder = 0 ∧
      ∀ k, k < 1 → (itemPlace (s.ports[(0 : PortId)].cursor.address + k)).isSome = true :=
  ⟨⟨demo_serves 0, fun c h => by cases h⟩, ⟨editor, ⟨0, 900000000⟩, by decide +kernel, rfl, rfl, 1, by decide +kernel⟩,
    ⟨editor, ⟨0, 900000000⟩, by decide +kernel⟩⟩

/-- A state with a claim, a pending switch and draining. -/
def claimed (c : Option Claim) (S : Option Nat) (d : Option Draining) : State :=
  { demo with store := { demo.store with claim := c, pendingSwitch := S, draining := d } }

/-- The four situations of the claim. -/
theorem witness_EditClaimTaken :
    (∃ s : State, Serves s 0 ∧ ∃ c, s.store.claim = some c ∧ c.holder ≠ 0) ∧
    (∃ s : State, Serves s 0 ∧ ∃ c, s.store.claim = some c ∧ c.holder = 0) ∧
    (∃ s : State, Serves s 0 ∧ s.store.claim = none ∧ s.store.pendingSwitch.isSome = true) ∧
    (∃ s : State, Serves s 0 ∧ s.store.claim = none ∧ s.store.draining.isSome = true) ∧
    ∃ s : State, Serves s 0 ∧ s.store.claim = none ∧ s.store.pendingSwitch = none ∧ s.store.draining = none :=
  ⟨⟨claimed (some ⟨2, 900000000⟩) none none, by decide +kernel, _, rfl, by decide⟩,
    ⟨claimed (some ⟨0, 900000000⟩) none none, by decide +kernel, _, rfl, rfl⟩,
    ⟨claimed none (some 6002) none, by decide +kernel⟩, ⟨claimed none none (some ⟨2, 6000⟩), by decide +kernel⟩,
    ⟨claimed none none none, by decide +kernel⟩⟩

/-- Every check of R125 in turn, the switch second at both ends of its range and one past each. -/
theorem witness_CommitAtSecondSchedules :
    (Serves demo 0 ∧ ∀ c, demo.store.claim = some c → c.holder ≠ 0) ∧
    (∃ s : State, Serves s 0 ∧ (∃ c, s.store.claim = some c ∧ c.holder = 0) ∧ s.store.active = none) ∧
    (∃ s : State, Serves s 0 ∧ (∃ c, s.store.claim = some c ∧ c.holder = 0) ∧ s.store.active.isSome = true ∧
      s.timebase.localTime = some ⟨6000, 0⟩ ∧ (s.store.bank s.store.standby).failing = none) ∧
    (∃ s : State, Serves s 0 ∧ (∃ c, s.store.claim = some c ∧ c.holder = 0) ∧ s.store.active.isSome = true ∧
      s.timebase.localTime = some ⟨6000, 0⟩ ∧ (s.store.bank s.store.standby).failing = some 0) ∧
    (6001#32).toNat < 6000 + 2 ∧ 6000 + 2 ≤ (6002#32).toNat ∧ (9600#32).toNat ≤ 6000 + 3600 ∧
      6000 + 3600 < (9601#32).toNat :=
  ⟨⟨demo_serves 0, fun c h => by cases h⟩, ⟨unprovisioned, by decide +kernel, ⟨_, rfl, rfl⟩, rfl⟩,
    ⟨editor, by decide +kernel, ⟨_, rfl, rfl⟩, rfl, rfl, by decide +kernel⟩,
    ⟨{ editor with store := { editor.store with banks := Vector.ofFn fun _ => Bank.zero } }, by decide +kernel,
      ⟨_, rfl, rfl⟩, rfl, rfl, by decide +kernel⟩, by decide⟩

/-- The bank of section 5.10 passes; its first rate item, its second station and its roster are each found at their
address (R127). -/
theorem test_failing :
    bankA.failing = none ∧
    (bankOf [51, 50, 40, 100, 0, 20, 60, 10, 500, 5, 14, 7] [[1, 100, 50, 1, 0, 1, 0]]).failing = some 0 ∧
    (bankOf [50, 50, 40, 100, 0, 20, 60, 10, 500, 5, 14, 7] [[1, 100, 50, 1, 0, 1, 0], [1, 100, 50, 1, 0, 1, 0]]).failing
      = some 33 ∧
    (bankOf [50, 50, 40, 100, 0, 20, 60, 10, 500, 5, 14, 7] []).failing = some 16 := by decide +kernel

/-- A bank active; a failing standby bank; a standby bank that passes, with local time set and not set. -/
theorem witness_CommitNowProvisions :
    (∃ s : State, Serves s 0 ∧ (∃ c, s.store.claim = some c ∧ c.holder = 0) ∧ s.store.active.isSome = true) ∧
    (∃ s : State, Serves s 0 ∧ (∃ c, s.store.claim = some c ∧ c.holder = 0) ∧ s.store.active = none ∧
      (s.store.bank s.store.standby).failing = some 0) ∧
    (∃ s : State, Serves s 0 ∧ (∃ c, s.store.claim = some c ∧ c.holder = 0) ∧ s.store.active = none ∧
      (s.store.bank s.store.standby).failing = none ∧ s.timebase.localTime = some ⟨6000, 0⟩) ∧
    ∃ s : State, Serves s 0 ∧ (∃ c, s.store.claim = some c ∧ c.holder = 0) ∧ s.store.active = none ∧
      (s.store.bank s.store.standby).failing = none ∧ s.timebase.localTime = none :=
  ⟨⟨editor, by decide +kernel, ⟨_, rfl, rfl⟩, rfl⟩,
    ⟨{ unprovisioned with store := { unprovisioned.store with banks := Vector.ofFn fun _ => Bank.zero } },
      by decide +kernel, ⟨_, rfl, rfl⟩, rfl, by decide +kernel⟩,
    ⟨unprovisioned, by decide +kernel, ⟨_, rfl, rfl⟩, rfl, by decide +kernel, rfl⟩,
    ⟨{ unprovisioned with timebase := Timebase.reset }, by decide +kernel, ⟨_, rfl, rfl⟩, rfl, by decide +kernel, rfl⟩⟩

theorem witness_CommitNowProvisions_holder : Serves demo 0 ∧ ∀ c, demo.store.claim = some c → c.holder ≠ 0 :=
  ⟨demo_serves 0, fun c h => by cases h⟩

theorem witness_CancelWithdrawsSwitch :
    (∃ s : State, Serves s 0 ∧ s.store.pendingSwitch.isSome = true) ∧
    ∃ s : State, Serves s 0 ∧ s.store.pendingSwitch = none :=
  ⟨⟨claimed none (some 6002) none, by decide +kernel⟩, ⟨demo, demo_serves 0, rfl⟩⟩

/-! #### Streams, reference, clearing -/

/-- An index and an action out of range; UNCONFIGURED; PENDING; a station busy for another stream; no route; a route with
room in the outbound queue and without. -/
theorem witness_StreamCommandIssued :
    (Serves demo 1 ∧ 48 ≤ (48#8).toNat ∧ 2 < (3#8).toNat) ∧
    demo.supervisor.streams[(47 : StreamId)].health = .unconfigured ∧
    (Serves (pendingWith halting demo) 1 ∧ demo.supervisor.streams[(0 : StreamId)].health ≠ .unconfigured ∧
      (pendingWith halting demo).relay.slots[(0 : StreamId)].isSome = true) ∧
    (∃ s : State, Serves s 1 ∧ s.relay.slots[(1 : StreamId)] = none ∧ s.store.activeStation 1 = some 101 ∧
      ∃ j : StreamId, ∃ c, j ≠ 1 ∧ s.relay.slots[j] = some c ∧ c.station = 101) ∧
    (Serves demo 1 ∧ demo.store.activeStation 0 = some 100 ∧ (∀ j : StreamId, demo.relay.slots[j] = none) ∧
      ∀ l : LaneId, demo.lanes[l].up = false) ∧
    ∀ n ∈ [15, 16], ∃ s : State, Serves s 1 ∧ s.store.activeStation 0 = some 100 ∧
      (∀ j : StreamId, s.relay.slots[j] = none) ∧ s.supervisor.streams[(0 : StreamId)].lastLane = some 0 ∧
      s.lanes[(0 : LaneId)].up = true ∧ s.lanes[(0 : LaneId)].outbound.length = n := by
  refine ⟨⟨demo_serves 1, by decide, by decide⟩, by decide +kernel, by decide +kernel,
    ⟨pendingWith { halting with station := 101 } demo, by decide +kernel, by decide +kernel, by decide +kernel, 0,
      { halting with station := 101 }, by decide +kernel⟩, by decide +kernel, fun n hn => ?_⟩
  refine ⟨{ demo with lanes := update demo.lanes 0 fun q =>
    { q with up := true, outbound := List.replicate n ⟨1, 0, .echo⟩ } }, ?_⟩
  revert n
  decide +kernel

/-- Stream 0 in a health, its last lane L0 DOWN, L2 and L3 UP. -/
def routed (h : Health) : State :=
  { faultyZero h 0 with lanes := update (update demo.lanes 2 fun q => { q with up := true }) 3 fun q => { q with up := true } }

/-- A HALTED stream takes the lowest lane that is UP; another stream has no route although lanes are UP. -/
theorem witness_StreamCommandIssued_route :
    (Serves (routed .halted) 1 ∧ (routed .halted).store.activeStation 0 = some 100 ∧ Routes (routed .halted) 0 2 ∧
      ¬ Routes (routed .halted) 0 3) ∧
    (Serves (routed .live) 1 ∧ (routed .live).store.activeStation 0 = some 100 ∧ (routed .live).lanes[(2 : LaneId)].up = true ∧
      ∀ l : LaneId, ¬ Routes (routed .live) 0 l) := by
  unfold Routes
  decide +kernel

theorem test_streamCommand_halted :
    (after (.streamCommand 1 9 0 1) (routed .halted)).lanes[(2 : LaneId)].outbound = [⟨100, 0, .resume⟩] ∧
      (after (.streamCommand 1 9 0 1) (routed .live)).ports[(1 : PortId)].outbound.map (fun f => f.reply.code) = [.noRoute] := by
  decide +kernel

theorem witness_ReleaseAndAccept :
    Serves demo 0 ∧ 48 ≤ (48#8).toNat ∧ (0#8).toNat = (0 : StreamId).val ∧
    demo.supervisor.streams[(0 : StreamId)].health ≠ .quarantined ∧
    (∃ s : State, Serves s 0 ∧ s.supervisor.streams[(0 : StreamId)].health = .quarantined ∧ s.store.active = some 0) ∧
    (∃ s : State, Serves s 0 ∧ s.timebase.state = .rejected) ∧ demo.timebase.state ≠ .rejected :=
  ⟨demo_serves 0, by decide, by decide, by decide +kernel, ⟨faultyZero .quarantined 4, by decide +kernel⟩,
    ⟨armed demo, by decide +kernel⟩, by decide +kernel⟩

/-- ALIGNING and not; judged, HALTED and UNCONFIGURED streams. -/
theorem witness_ClearAlignmentClears :
    (Serves demo 0 ∧ demo.device = .aligning ∧ demo.currentEpoch = some ⟨6000, 0⟩ ∧ demo.store.active = some 0 ∧
      demo.supervisor.streams[(0 : StreamId)].health.judged = true ∧
      demo.supervisor.streams[(47 : StreamId)].health = .unconfigured) ∧
    (∃ s : State, Serves s 0 ∧ s.device ≠ .aligning) ∧
    ∃ s : State, Serves s 0 ∧ s.supervisor.streams[(0 : StreamId)].health = .halted :=
  ⟨by decide +kernel, ⟨unprovisioned, by decide +kernel⟩, ⟨faultyZero .halted 0, by decide +kernel⟩⟩

theorem witness_PortResetResetsPort :
    (∃ s : State, Serves s 0 ∧ ∃ c, s.store.claim = some c ∧ c.holder = 0) ∧
    ∃ s : State, Serves s 0 ∧ ∃ c, s.store.claim = some c ∧ c.holder ≠ 0 :=
  ⟨⟨claimed (some ⟨0, 900000000⟩) none none, by decide +kernel, _, rfl, rfl⟩,
    ⟨claimed (some ⟨2, 900000000⟩) none none, by decide +kernel, _, rfl, by decide⟩⟩

/-! #### Invariants: a step from a provisioned state at work -/

/-- `demo` with a request waiting. -/
def working : State := { demo with pending := [.beginEdit 0 1] }

theorem working_steps : ∃ t, step working = .next t := ⟨_, rfl⟩

theorem working_store : StoreInv working.store :=
  ⟨fun a h => by
    cases h
    exact ⟨by decide +kernel, by decide +kernel⟩, (fun h => by cases h), (fun h => by cases h)⟩

theorem witness_StoreInvariant :
    ∃ s t : State, ∃ a c rest, StoreInv s.store ∧ step s = .next t ∧ s.store.active = some a ∧ s.pending = c :: rest ∧
      c ≠ .powerOn ∧ c ≠ .supplyBelowLimit :=
  have ⟨t, ht⟩ := working_steps
  ⟨working, t, 0, _, _, working_store, ht, rfl, rfl, by decide, by decide⟩

theorem witness_TableInvariant : ∃ s t : State, TableInv s ∧ CursorInv s ∧ step s = .next t :=
  have ⟨t, ht⟩ := working_steps
  ⟨working, t, table_of_demo rfl rfl rfl, by unfold CursorInv; decide +kernel, ht⟩

theorem working_supervisor : SupervisorInv working := by
  refine ⟨?_, rfl, fun a h => ?_, by decide +kernel, by decide +kernel⟩
  · unfold StreamInv
    decide +kernel
  · cases h
    decide +kernel

theorem witness_SupervisorInvariant : ∃ s t : State, StoreInv s.store ∧ SupervisorInv s ∧ step s = .next t :=
  have ⟨t, ht⟩ := working_steps
  ⟨working, t, working_store, working_supervisor, ht⟩

theorem working_timebase : TimebaseInv working.timebase := by
  simp [TimebaseInv, working, demo, Timebase.reset]

theorem witness_TimebaseInvariant :
    ∃ s t : State, TimebaseInv s.timebase ∧ step s = .next t ∧ (∀ c rest, s.pending = c :: rest → Instr.isReset c = false) ∧
      s.timebase.localTime = some ⟨6000, 0⟩ :=
  have ⟨t, ht⟩ := working_steps
  ⟨working, t, working_timebase, ht, (fun c rest h => by cases h; rfl), rfl⟩

theorem working_link : LinkInv working := by
  have empty : ∀ i : StreamId, working.relay.slots[i] = none := by decide +kernel
  refine ⟨by decide +kernel, by decide +kernel, fun i j c d h => ?_, fun i c h => ?_⟩
  · rw [empty i] at h
    cases h
  · rw [empty i] at h
    cases h

theorem witness_LinkInvariant : ∃ s t : State, LinkInv s ∧ step s = .next t :=
  have ⟨t, ht⟩ := working_steps
  ⟨working, t, working_link, ht⟩

/-- A request of another port, and a latched kind that stays. -/
theorem witness_ConditionsBelongToThePort :
    ∃ (c : Instr) (s t : State) (k : Kind), exec c s = .next t ∧ encodeRequest c = some (0, 1, 0x0D, []) ∧ (0 : PortId) ≠ 1 ∧
      Instr.isReset c = false ∧ (∀ tag, c ≠ .readConditions 1 tag) ∧ (∀ tag, c ≠ .portReset 1 tag) ∧
      kindIn k s.ports[(1 : PortId)].latched = true :=
  ⟨.beginEdit 0 1, demo.latchAll .conflict, _, .conflict, rfl, rfl, by decide, rfl, (fun tag h => by cases h),
    (fun tag h => by cases h), by decide +kernel⟩

end Sys2Proof.Tests
end

section
/-! PROOFS. What a command leaves of the timebase, the table, the active bank and the read cursors, said once for every
command that touches none of them. -/

namespace Sys2Proof.Machine

/-! ### Equality of states, field by field -/

@[ext] theorem State.ext {s t : State} (timebase : s.timebase = t.timebase) (lanes : s.lanes = t.lanes)
    (arbiter : s.arbiter = t.arbiter) (table : s.table = t.table) (supervisor : s.supervisor = t.supervisor)
    (store : s.store = t.store) (relay : s.relay = t.relay) (ports : s.ports = t.ports)
    (supplies : s.supplies = t.supplies) (resetLow : s.resetLow = t.resetLow) (pending : s.pending = t.pending) :
    s = t := by
  cases s
  cases t
  simp_all

/-! ### Carrying a property through the shared shapes of a command -/

/-- What holds of a state and of what a command makes of it holds after the command, in a reset or out of it. -/
theorem State.whileOperating_preserves {P : State → Prop} {s : State} {f : State → State} (h : P s)
    (hf : P (f s)) : P (s.whileOperating f) := by
  unfold State.whileOperating
  split
  · exact hf
  · exact h

/-- A change of a port that moves neither of its read cursors. -/
def KeepsCursors (f : Port → Port) : Prop :=
  ∀ q, (f q).fastCursor = q.fastCursor ∧ (f q).fullCursor = q.fullCursor

theorem Port.takeInHand_keepsCursors (c : Instr) : KeepsCursors (Port.takeInHand c) := fun _ => ⟨rfl, rfl⟩

theorem Port.respond_keepsCursors (tag : Byte) (r : Reply) : KeepsCursors (Port.respond tag r) := fun _ => ⟨rfl, rfl⟩

theorem Port.latch_keepsCursors (k : Kind) : KeepsCursors (Port.latch k) := fun _ => ⟨rfl, rfl⟩

theorem Port.busyAnswer_keepsCursors (tag : Byte) : KeepsCursors (Port.busyAnswer tag) := by
  intro q
  unfold Port.busyAnswer
  split <;> exact ⟨rfl, rfl⟩

theorem Port.responseSent_keepsCursors : KeepsCursors Port.responseSent := by
  intro q
  unfold Port.responseSent
  split <;> exact ⟨rfl, rfl⟩

theorem Port.goodFrame_keepsCursors (p : PortId) (tag code : Byte) (payload : List Byte) :
    KeepsCursors (Port.goodFrame p tag code payload) := by
  intro q
  unfold Port.goodFrame
  split
  · split <;> exact ⟨rfl, rfl⟩
  · exact Port.busyAnswer_keepsCursors tag q

theorem Port.arrival_keepsCursors (p : PortId) (a : Arrival) : KeepsCursors fun q => q.arrival p a := by
  intro q
  cases a with
  | nothing => exact ⟨rfl, rfl⟩
  | brokenOff => exact ⟨rfl, rfl⟩
  | whole bytes =>
    dsimp only [Port.arrival]
    split
    · exact Port.goodFrame_keepsCursors p _ _ _ q
    · exact ⟨rfl, rfl⟩

theorem Port.lineEvent_keepsCursors (p : PortId) (now : Nat) (e : LineEvent) :
    KeepsCursors fun q => q.lineEvent p now e := by
  intro q
  dsimp only [Port.lineEvent]
  have arrival := Port.arrival_keepsCursors p (requestReceive now q.rx e).2
  split
  · exact arrival _
  · exact arrival _

theorem Port.line_keepsCursors (p : PortId) (now : Nat) (line : List LineEvent) :
    KeepsCursors (Port.line p now line) := by
  have fold : ∀ l : List LineEvent, KeepsCursors fun q => l.foldl (Port.lineEvent p now) q := by
    intro l
    induction l with
    | nil => exact fun q => ⟨rfl, rfl⟩
    | cons e l ih =>
      intro q
      have first := Port.lineEvent_keepsCursors p now e q
      have rest := ih (q.lineEvent p now e)
      exact ⟨rest.1.trans first.1, rest.2.trans first.2⟩
  exact fun q => fold _ q

/-- A request keeps what its owner keeps, for a property that no taking, answering or BUSY answer of a port touches. -/
theorem State.serve_preserves {P : State → Prop} {p : PortId} {owner : State → State × Reply}
    (port : ∀ u f, KeepsCursors f → P u → P (u.updPort p f)) (work : ∀ u, P u → P (owner u).1)
    {s : State} (h : P s) (c : Instr) (tag : Byte) : P (s.serve c p tag owner) := by
  have answer : ∀ u, P u → P (u.answer p tag owner) := fun u hu =>
    port _ _ (Port.respond_keepsCursors tag _) (work u hu)
  unfold State.serve
  split
  · exact answer _ (port _ _ (Port.takeInHand_keepsCursors c) h)
  · split
    · exact answer _ h
    · exact port _ _ (Port.busyAnswer_keepsCursors tag) h
  · exact port _ _ (Port.busyAnswer_keepsCursors tag) h

/-- What an owner keeps is kept when a payload of a wrong length keeps the request from it. -/
theorem orMalformed_preserves {P : State → Prop} {fits : Bool} {owner : State → State × Reply} {s : State}
    (h : P s) (work : P (owner s).1) : P (orMalformed fits owner s).1 := by
  unfold orMalformed
  split
  · exact work
  · exact h

/-! ### The frame -/

/-- From `s` to `t` the timebase, the table, the active bank and every read cursor stand as they stood. -/
structure Keeps (s t : State) : Prop where
  timebase : t.timebase = s.timebase
  table : t.table = s.table
  active : t.store.active = s.store.active
  cursors : ∀ p : PortId, t.ports[p].fastCursor = s.ports[p].fastCursor ∧ t.ports[p].fullCursor = s.ports[p].fullCursor

theorem Keeps.refl (s : State) : Keeps s s := ⟨rfl, rfl, rfl, fun _ => ⟨rfl, rfl⟩⟩

theorem Keeps.trans {s t u : State} (h : Keeps s t) (h' : Keeps t u) : Keeps s u :=
  ⟨h'.timebase.trans h.timebase, h'.table.trans h.table, h'.active.trans h.active,
    fun p => ⟨(h'.cursors p).1.trans (h.cursors p).1, (h'.cursors p).2.trans (h.cursors p).2⟩⟩

/-- A state whose ports are untouched keeps its cursors. -/
theorem Keeps.of_ports_eq {s t : State} (timebase : t.timebase = s.timebase) (table : t.table = s.table)
    (active : t.store.active = s.store.active) (ports : t.ports = s.ports) : Keeps s t :=
  ⟨timebase, table, active, fun p => by rw [ports]; exact ⟨rfl, rfl⟩⟩

theorem Keeps.updPort (s : State) (p : PortId) {f : Port → Port} (h : KeepsCursors f) : Keeps s (s.updPort p f) := by
  refine ⟨rfl, rfl, rfl, fun q => ?_⟩
  by_cases e : q = p
  · subst e
    simpa using h s.ports[q]
  · simp [e]

theorem Keeps.updPorts (s : State) {f : PortId → Port → Port} (h : ∀ p, KeepsCursors (f p)) :
    Keeps s (s.updPorts f) := by
  refine ⟨rfl, rfl, rfl, fun q => ?_⟩
  simpa using h q s.ports[q]

theorem Keeps.latchAll (s : State) (k : Kind) : Keeps s (s.latchAll k) :=
  Keeps.updPorts s fun _ => Port.latch_keepsCursors k

theorem Keeps.latchIn (s : State) (p : PortId) (k : Kind) : Keeps s (s.latchIn p k) :=
  Keeps.updPort s p (Port.latch_keepsCursors k)

theorem Keeps.updLane (s : State) (l : LaneId) (f : Lane → Lane) : Keeps s (s.updLane l f) :=
  .of_ports_eq rfl rfl rfl rfl

theorem Keeps.updStream (s : State) (i : StreamId) (f : StreamRecord → StreamRecord) : Keeps s (s.updStream i f) :=
  .of_ports_eq (by simp) (by simp) (by simp) (by simp)

theorem Keeps.setCommand (s : State) (i : StreamId) (c : Option CommandSlot) : Keeps s (s.setCommand i c) :=
  .of_ports_eq (by simp) (by simp) (by simp) (by simp)

theorem Keeps.setClaim (s : State) (c : Option Claim) : Keeps s (s.setClaim c) := .of_ports_eq rfl rfl rfl rfl

theorem Keeps.startClaim (s : State) (p : PortId) : Keeps s (s.startClaim p) := .of_ports_eq rfl rfl rfl rfl

theorem Keeps.setStandby (s : State) (b : Bank) : Keeps s (s.setStandby b) := .of_ports_eq rfl rfl rfl rfl

theorem Keeps.renewClaim (s : State) (p : PortId) : Keeps s (s.renewClaim p) := by
  unfold State.renewClaim
  split
  · exact Keeps.startClaim s p
  · exact Keeps.refl s

theorem Keeps.setCursor (s : State) (p : PortId) (c : ProfileCursor) : Keeps s (s.setCursor p c) :=
  Keeps.updPort s p fun _ => ⟨rfl, rfl⟩

theorem Keeps.handOutcome (s : State) (p : PortId) (o : CommandOutcome) : Keeps s (s.handOutcome p o) :=
  Keeps.updPort s p fun _ => ⟨rfl, rfl⟩

theorem Keeps.whileOperating {s : State} {f : State → State} (h : Keeps s (f s)) : Keeps s (s.whileOperating f) :=
  State.whileOperating_preserves (P := Keeps s) (Keeps.refl s) h

/-- A request whose owner keeps the frame keeps it. -/
theorem Keeps.serve {p : PortId} {owner : State → State × Reply} (work : ∀ u, Keeps u (owner u).1) (s : State)
    (c : Instr) (tag : Byte) : Keeps s (s.whileOperating fun u => u.serve c p tag owner) :=
  Keeps.whileOperating <| State.serve_preserves (P := Keeps s) (fun u _ hf hu => hu.trans (Keeps.updPort u p hf))
    (fun u hu => hu.trans (work u)) (Keeps.refl s) c tag

theorem Keeps.orMalformed {fits : Bool} {owner : State → State × Reply} {s : State} (work : Keeps s (owner s).1) :
    Keeps s (orMalformed fits owner s).1 := orMalformed_preserves (P := Keeps s) (Keeps.refl s) work

/-! ### The lanes, the intake, the relay -/

theorem Keeps.discardLaneFrame (s : State) (l : LaneId) : Keeps s (s.discardLaneFrame l) :=
  (Keeps.updLane s l _).trans (Keeps.latchAll _ _)

theorem Keeps.validLaneFrame (s : State) (l : LaneId) (c : LaneContent) : Keeps s (s.validLaneFrame l c) := by
  unfold State.validLaneFrame
  dsimp only
  split
  · exact (Keeps.updLane s l _).trans (Keeps.latchAll _ _)
  · exact Keeps.updLane s l _

theorem Keeps.laneArrival (s : State) (l : LaneId) (a : Arrival) : Keeps s (s.laneArrival l a) := by
  cases a with
  | nothing => exact Keeps.refl s
  | brokenOff => exact Keeps.discardLaneFrame s l
  | whole bytes =>
    dsimp only [State.laneArrival]
    split
    · exact Keeps.validLaneFrame s l _
    · exact Keeps.discardLaneFrame s l

theorem Keeps.laneLine (s : State) (l : LaneId) (line : List LineEvent) : Keeps s (s.laneLine l line) := by
  have fold : ∀ (es : List LineEvent) (u : State), Keeps u (es.foldl (fun u e => u.laneEvent l e) u) := by
    intro es
    induction es with
    | nil => exact Keeps.refl
    | cons e es ih => exact fun u => ((Keeps.updLane u l _).trans (Keeps.laneArrival _ l _)).trans (ih _)
  exact fold _ s

theorem Keeps.laneSilence (s : State) (l : LaneId) : Keeps s (s.laneSilence l) := by
  unfold State.laneSilence
  split
  · exact (Keeps.updLane s l _).trans (Keeps.latchAll _ _)
  · exact Keeps.refl s

theorem Keeps.faultReport (s : State) (i : StreamId) (k : FaultKind) : Keeps s (s.faultReport i k) := by
  have latchIf : ∀ (u : State) (b : Bool) (k : Kind), Keeps u (if b then u.latchAll k else u) := by
    intro u b k
    cases b
    · exact Keeps.refl u
    · exact Keeps.latchAll u k
  exact (Keeps.updStream s i _).trans ((latchIf _ _ _).trans (latchIf _ _ _))

theorem Keeps.applyPlacement (s : State) (pl : Placement) : Keeps s (s.applyPlacement pl) := by
  cases pl with
  | dropped => exact Keeps.refl s
  | unknownSource => exact Keeps.latchAll s _
  | fault sup k =>
    cases sup with
    | none => exact Keeps.refl s
    | some i => exact Keeps.faultReport s i k
  | placed r => exact .of_ports_eq rfl rfl rfl rfl

theorem Keeps.acknowledge (s : State) (a : Ack) (arrival : Nat) : Keeps s (s.acknowledge a arrival) := by
  have effect : ∀ (i : StreamId) (b : Bool) (act : Action), Keeps s (if b then s.commandEffect i act else s) := by
    intro i b act
    cases b with
    | false => exact Keeps.refl s
    | true =>
      cases act with
      | halt => exact Keeps.updStream s i _
      | resume => exact Keeps.updStream s i _
      | echo => exact Keeps.refl s
  unfold State.acknowledge
  split
  · exact ((effect _ _ _).trans (Keeps.setCommand _ _ _)).trans (Keeps.handOutcome _ _ _)
  · exact Keeps.refl s

theorem Keeps.arbiterTake (s : State) : Keeps s s.arbiterTake := by
  have route : ∀ (u : State) (item : QueueItem), Keeps u (u.routeItem item) := by
    intro u item
    unfold State.routeItem
    split
    · exact Keeps.acknowledge u _ _
    · split
      · exact Keeps.applyPlacement u _
      · exact Keeps.refl u
  unfold State.arbiterTake
  split
  · exact Keeps.trans (.of_ports_eq (by simp) (by simp) (by simp) (by simp)) (route (s.dequeue _ _) _)
  · exact Keeps.refl s

theorem Keeps.timeOutCommand (s : State) (i : StreamId) (c : CommandSlot) : Keeps s (s.timeOutCommand i c) :=
  (Keeps.setCommand s i none).trans (Keeps.handOutcome _ _ _)

/-! ### The profile store -/

theorem Keeps.claimExpiry (s : State) : Keeps s s.claimExpiry := by
  unfold State.claimExpiry
  split
  · split
    · exact (Keeps.setClaim s _).trans (Keeps.latchIn _ _ _)
    · exact Keeps.refl s
  · exact Keeps.refl s

theorem Keeps.endDraining (s : State) : Keeps s s.endDraining := by
  unfold State.endDraining
  split
  · split
    · exact .of_ports_eq rfl rfl rfl rfl
    · exact Keeps.refl s
  · exact Keeps.refl s

theorem Keeps.beginEdit (s : State) (p : PortId) : Keeps s (s.beginEdit p).1 := by
  unfold State.beginEdit
  repeat' split
  all_goals first
    | exact Keeps.startClaim s p
    | exact Keeps.refl s

theorem Keeps.abandonEdit (s : State) (p : PortId) : Keeps s (s.abandonEdit p).1 := by
  unfold State.abandonEdit
  split
  · exact Keeps.setClaim s _
  · exact Keeps.refl s

theorem Keeps.profileCursor (s : State) (p : PortId) (selector : Byte) (address : BitVec 16) (mode : Byte) :
    Keeps s (s.profileCursor p selector address mode).1 := by
  unfold State.profileCursor
  split
  · exact (Keeps.renewClaim s p).trans (Keeps.setCursor _ _ _)
  · exact Keeps.renewClaim s p

theorem Keeps.profileGet (s : State) (p : PortId) (count : Byte) : Keeps s (s.profileGet p count).1 := by
  unfold State.profileGet
  dsimp only
  split
  · exact Keeps.renewClaim s p
  · split
    · exact Keeps.renewClaim s p
    · split
      · exact Keeps.renewClaim s p
      · exact (Keeps.renewClaim s p).trans (Keeps.setCursor _ _ _)

theorem Keeps.profilePut (s : State) (p : PortId) (values : List Word) : Keeps s (s.profilePut p values).1 := by
  unfold State.profilePut
  dsimp only
  split
  · split
    · exact Keeps.startClaim s p
    · exact ((Keeps.startClaim s p).trans (Keeps.setStandby _ _)).trans (Keeps.setCursor _ _ _)
  · exact Keeps.refl s

theorem Keeps.commitAtSecond (s : State) (p : PortId) (mode : Byte) (S : Nat) :
    Keeps s (s.commitAtSecond p mode S).1 := by
  have refuse : ∀ r, Keeps s (s.refuseCommit p r).1 := fun _ => Keeps.startClaim s p
  unfold State.commitAtSecond
  split
  · exact Keeps.refl s
  · split
    · exact refuse _
    · split
      · exact refuse _
      · split
        · exact refuse _
        · split
          · exact refuse _
          · split
            · exact refuse _
            · exact .of_ports_eq rfl rfl rfl rfl

theorem Keeps.cancelSwitch (s : State) : Keeps s s.cancelSwitch.1 := by
  unfold State.cancelSwitch
  split
  · exact .of_ports_eq rfl rfl rfl rfl
  · exact Keeps.refl s

/-! ### The other requests -/

theorem Keeps.readConditions (s : State) (p : PortId) : Keeps s (s.readConditions p).1 :=
  Keeps.updPort s p (f := fun q => { q with latched := 0 }) fun _ => ⟨rfl, rfl⟩

theorem Keeps.readRosterState (s : State) (p : PortId) : Keeps s (s.readRosterState p).1 := by
  refine Keeps.updPort s p fun q => ?_
  exact ⟨rfl, rfl⟩

theorem Keeps.setMask (s : State) (p : PortId) (count : Byte) (kinds : List Byte) :
    Keeps s (s.setMask p count kinds).1 := by
  unfold State.setMask
  split
  · exact Keeps.updPort s p fun _ => ⟨rfl, rfl⟩
  · exact Keeps.refl s

theorem Keeps.readSnapshotSequence (s : State) (p : PortId) (kind target : Byte) (n : Nat) :
    Keeps s (s.readSnapshotSequence p kind target n).1 := by
  unfold State.readSnapshotSequence
  repeat' split
  all_goals exact Keeps.refl s

theorem Keeps.readStreamDetail (s : State) (index : Byte) : Keeps s (s.readStreamDetail index).1 := by
  unfold State.readStreamDetail
  split <;> exact Keeps.refl s

theorem Keeps.streamCommand (s : State) (p : PortId) (index action : Byte) :
    Keeps s (s.streamCommand p index action).1 := by
  unfold State.streamCommand
  repeat' split
  all_goals exact .of_ports_eq (by simp) (by simp) (by simp) (by simp)

theorem Keeps.releaseStream (s : State) (index : Byte) : Keeps s (s.releaseStream index).1 := by
  unfold State.releaseStream
  split
  · exact Keeps.refl s
  · split
    · exact Keeps.updStream s _ _
    · exact Keeps.refl s

/-! ### The commands that keep the frame -/

/-- The commands that may change the timebase, the table, the active bank or a read cursor. -/
def Instr.touchesFrame : Instr → Bool
  | .powerOn | .resetLine | .resetLineRelease | .timeMessage _ | .ppsEdge | .ppsLossTimerExpiry | .holdoverLimitExpiry
  | .slewEnd | .pauseEnd | .secondBoundary | .epochBoundary | .fastDeadlineExpiry _ | .fullDeadlineExpiry _
  | .tableTakeRecord | .subscribe .. | .readSnapshotNext .. | .commitSwitchNow .. | .acceptReference ..
  | .clearAlignment .. | .portReset .. | .supplyBelowLimit => true
  | _ => false

/-- Every other command leaves the timebase, the table, the active bank and the read cursors as they stand. -/
theorem exec_keeps_exists {c : Instr} (quiet : Instr.touchesFrame c = false) (s : State) :
    ∃ t, exec c s = .next t ∧ Keeps s t := by
  cases c with
  | powerOn | resetLine | resetLineRelease | timeMessage | ppsEdge | ppsLossTimerExpiry | holdoverLimitExpiry
  | slewEnd | pauseEnd | secondBoundary | epochBoundary | fastDeadlineExpiry | fullDeadlineExpiry
  | tableTakeRecord | subscribe | readSnapshotNext | commitSwitchNow | acceptReference
  | clearAlignment | portReset | supplyBelowLimit => cases quiet
  | drainingEnd => exact ⟨_, rfl, Keeps.whileOperating (Keeps.endDraining s)⟩
  | laneFrameArrival l line => exact ⟨_, rfl, Keeps.whileOperating (Keeps.laneLine s l line)⟩
  | laneSilenceTimerExpiry l => exact ⟨_, rfl, Keeps.whileOperating (Keeps.laneSilence s l)⟩
  | commandFrameSent l => exact ⟨_, rfl, Keeps.whileOperating (Keeps.updLane s l _)⟩
  | arbiterTake => exact ⟨_, rfl, Keeps.whileOperating (Keeps.arbiterTake s)⟩
  | commandTimeout i =>
    refine ⟨_, rfl, Keeps.whileOperating ?_⟩
    split
    · split
      · exact Keeps.timeOutCommand s i _
      · exact Keeps.refl s
    · exact Keeps.refl s
  | streamSilenceTimerExpiry i =>
    refine ⟨_, rfl, Keeps.whileOperating ?_⟩
    split
    · exact Keeps.updStream s i _
    · exact Keeps.refl s
  | quietTimerExpiry i =>
    refine ⟨_, rfl, Keeps.whileOperating ?_⟩
    split
    · exact Keeps.updStream s i _
    · exact Keeps.refl s
  | claimTimerExpiry => exact ⟨_, rfl, Keeps.whileOperating (Keeps.claimExpiry s)⟩
  | requestFrameArrival p line =>
    exact ⟨_, rfl, Keeps.whileOperating (Keeps.updPort s p (Port.line_keepsCursors p _ line))⟩
  | responseSent p =>
    exact ⟨_, rfl, Keeps.whileOperating (Keeps.updPort s p Port.responseSent_keepsCursors)⟩
  | status p tag => exact ⟨_, rfl, Keeps.serve (fun u => Keeps.refl u) s _ tag⟩
  | readConditions p tag =>
    exact ⟨_, rfl, Keeps.serve (fun u => Keeps.readConditions u p) s _ tag⟩
  | setMask p tag count kinds =>
    exact ⟨_, rfl, Keeps.serve (fun u => Keeps.orMalformed (Keeps.setMask u p count kinds)) s _ tag⟩
  | readSnapshotSequence p tag kind target seq =>
    exact ⟨_, rfl, Keeps.serve (fun u => Keeps.readSnapshotSequence u p kind target seq.toNat) s _ tag⟩
  | readRosterState p tag =>
    exact ⟨_, rfl, Keeps.serve (fun u => Keeps.readRosterState u p) s _ tag⟩
  | readStreamDetail p tag index =>
    exact ⟨_, rfl, Keeps.serve (fun u => Keeps.readStreamDetail u index) s _ tag⟩
  | readWorstLatency p tag => exact ⟨_, rfl, Keeps.serve (fun u => Keeps.refl u) s _ tag⟩
  | readLanes p tag => exact ⟨_, rfl, Keeps.serve (fun u => Keeps.refl u) s _ tag⟩
  | profileCursor p tag selector address mode =>
    exact ⟨_, rfl, Keeps.serve (fun u => Keeps.profileCursor u p selector address mode) s _ tag⟩
  | profileGet p tag count => exact ⟨_, rfl, Keeps.serve (fun u => Keeps.profileGet u p count) s _ tag⟩
  | profilePut p tag values =>
    exact ⟨_, rfl, Keeps.serve (fun u => Keeps.orMalformed (Keeps.profilePut u p values)) s _ tag⟩
  | beginEdit p tag => exact ⟨_, rfl, Keeps.serve (fun u => Keeps.beginEdit u p) s _ tag⟩
  | abandonEdit p tag => exact ⟨_, rfl, Keeps.serve (fun u => Keeps.abandonEdit u p) s _ tag⟩
  | commitSwitchAtSecond p tag mode second =>
    exact ⟨_, rfl, Keeps.serve (fun u => Keeps.commitAtSecond u p mode second.toNat) s _ tag⟩
  | cancelSwitch p tag => exact ⟨_, rfl, Keeps.serve Keeps.cancelSwitch s _ tag⟩
  | streamCommand p tag index action =>
    exact ⟨_, rfl, Keeps.serve (fun u => Keeps.streamCommand u p index action) s _ tag⟩
  | releaseStream p tag index =>
    exact ⟨_, rfl, Keeps.serve (fun u => Keeps.releaseStream u index) s _ tag⟩
  | powerOnExit =>
    refine ⟨_, rfl, ?_⟩
    split <;> exact .of_ports_eq rfl rfl rfl rfl

/-- What `exec_keeps_exists` says, of the state that is reached. -/
theorem exec_keeps {c : Instr} {s t : State} (quiet : Instr.touchesFrame c = false) (h : exec c s = .next t) :
    Keeps s t := by
  obtain ⟨u, hu, keeps⟩ := exec_keeps_exists quiet s
  rw [hu] at h
  exact Host.Outcome.next.inj h ▸ keeps

end Sys2Proof.Machine
end

section
/-! PROOFS. The timebase: what each of its operations makes of it, the cases of a PPS edge, and the invariant (R2, R5 to
R16). -/

namespace Sys2Proof.Machine

/-! ### What the operations make of the timebase -/

section
variable (s : State)

@[simp] theorem State.lock_timebase : s.lock.timebase = { s.timebase with
    state := .locked
    lossTimer := some (s.timebase.elapsed + 200000000)
    holdoverTimer := none
    rejectedError := none } := by
  simp [State.lock, State.after, ppsLossTime, elapsedSecond]

@[simp] theorem State.reject_timebase (e : Int) : (s.reject e).timebase = { s.timebase with
    state := .rejected
    rejectedError := some e
    lossTimer := none
    holdoverTimer := none } := by
  simp [State.reject]

@[simp] theorem State.settleAcceptance_timebase (e : Int) : (s.settleAcceptance e).timebase =
    { s.timebase with acceptance := s.timebase.acceptance.afterPps e } := rfl

@[simp] theorem State.settleAcceptance_table (e : Int) : (s.settleAcceptance e).table = s.table := rfl

@[simp] theorem State.settleAcceptance_supervisor (e : Int) : (s.settleAcceptance e).supervisor = s.supervisor := rfl

@[simp] theorem State.settleAcceptance_store (e : Int) : (s.settleAcceptance e).store = s.store := rfl

@[simp] theorem State.settleAcceptance_ports (e : Int) : (s.settleAcceptance e).ports = s.ports := rfl

/-- A due second boundary changes the timebase in its note of the last event alone. -/
theorem State.takeDueSecond_timebase : s.takeDueSecond.timebase =
    { s.timebase with lastSecondEvent := s.takeDueSecond.timebase.lastSecondEvent } := by
  unfold State.takeDueSecond
  split <;> simp

@[simp] theorem State.stepTo_timebase (x : Nat) : (s.stepTo x).timebase =
    { s.timebase with localTime := some (.ofSecond x), lastSecondEvent := some x } := by
  simp only [State.stepTo, State.epochBoundary_timebase, State.takeSecond_timebase, State.expireAll_timebase,
    State.raiseDiscontinuity_timebase, State.setLocal_timebase]
  rw [State.takeDueSecond_timebase]

@[simp] theorem State.beginPause_timebase (p : Nat) (w : Bool) : (s.beginPause p w).timebase =
    { s.timebase with correction := .pause (s.timebase.elapsed + p / 10) } := by
  unfold State.beginPause
  dsimp only
  split <;> simp [State.after]

@[simp] theorem State.applyUnset_timebase (x : Nat) : (s.applyUnset x).timebase = { s.timebase with
    localTime := some (.ofSecond x)
    state := .locked
    lossTimer := some (s.timebase.elapsed + 200000000)
    holdoverTimer := none
    rejectedError := none
    lastSecondEvent := some x } := by
  unfold State.applyUnset
  dsimp only
  split <;> simp

end

/-! ### The cases of a PPS edge -/

/-- The error of the model is the one of the statements (R9). -/
theorem ppsError_eq (x : Nat) (t : LocalTime) : ppsError x t = errorOf x t := by
  simp [ppsError, errorOf, LocalTime.toNs, nsPerSecond]

/-- What a valid PPS announces (R7). -/
theorem ValidPps.announced {s : State} {x : Nat} (h : ValidPps s x) : s.timebase.announced = some (x, true) := by
  obtain ⟨-, m, hm, valid, ⟨since, e⟩ | ⟨since, y, hy, lt, e⟩⟩ := h
  · simp [Timebase.announced, hm, since, e, valid]
  · simp [Timebase.announced, hm, since, hy, e, valid, secondPlusOne, lastSecond, lt]

/-- A valid PPS runs on the state that has noted it (R7). -/
theorem ValidPps.exec_unset {s : State} {x : Nat} (h : ValidPps s x) (unset : s.timebase.localTime = none) :
    exec .ppsEdge s = .next ((s.notePps x).applyUnset x) := by
  have e : exec .ppsEdge s = .next (s.whileOperating State.ppsEdge) := rfl
  rw [e, State.whileOperating_on h.1, State.ppsEdge, h.announced]
  simp [unset]

/-- A valid PPS with local time set has its error measured and handled (R9). -/
theorem ValidPps.exec_set {s : State} {x : Nat} {t : LocalTime} (h : ValidPps s x) (set : s.timebase.localTime = some t) :
    exec .ppsEdge s = .next ((s.notePps x).applyError x (errorOf x t)) := by
  have e : exec .ppsEdge s = .next (s.whileOperating State.ppsEdge) := rfl
  rw [e, State.whileOperating_on h.1, State.ppsEdge, h.announced]
  simp [set, State.applyPps, ppsError_eq]

/-- The state in which a PPS of error `e` that is not rejected is corrected: noted, LOCKED, nothing in progress,
acceptance settled (R5, R9, R16). -/
def State.lockedForPps (s : State) (x : Nat) (e : Int) : State :=
  (((s.notePps x).setCorrection .none).lock).settleAcceptance e

@[simp] theorem State.lockedForPps_timebase (s : State) (x : Nat) (e : Int) : (s.lockedForPps x e).timebase =
    { lockedBy x s.timebase with
      correction := .none
      acceptance := s.timebase.acceptance.afterPps e } := by
  simp [State.lockedForPps, lockedBy]

@[simp] theorem State.lockedForPps_table (s : State) (x : Nat) (e : Int) : (s.lockedForPps x e).table = s.table := by
  simp [State.lockedForPps]

@[simp] theorem State.lockedForPps_store (s : State) (x : Nat) (e : Int) : (s.lockedForPps x e).store = s.store := by
  simp [State.lockedForPps]

/-- The lock changes the timebase and the ports alone. -/
theorem State.lockedForPps_frame (s : State) (x : Nat) (e : Int) : s.lockedForPps x e =
    { s with timebase := (s.lockedForPps x e).timebase, ports := (s.lockedForPps x e).ports } := by
  ext1 <;> simp [State.lockedForPps]

/-- The lock raises REFERENCE_CHANGE for a change of state (R21). -/
theorem State.lockedForPps_raises (s : State) (x : Nat) (e : Int) :
    RaisedInAll (changeKinds s.timebase.state .locked) s (s.lockedForPps x e) := by
  intro p
  simpa [State.lockedForPps, State.lock] using
    State.enterTimeState_raises ((s.notePps x).setCorrection .none) .locked p

/-- An error above 2 s without acceptance is rejected (R14). -/
theorem State.applyError_rejects (s : State) (x : Nat) (e : Int) (large : 2000000000 < e.natAbs)
    (acceptance : s.timebase.acceptance = .none) :
    (s.notePps x).applyError x e = ((s.notePps x).setCorrection .none).reject e := by
  unfold State.applyError
  rw [if_pos ⟨by unfold correctionLimit; omega, by simpa using acceptance⟩]

/-- Every other error is corrected (R9, R16). -/
theorem State.applyError_corrects (s : State) (x : Nat) (e : Int)
    (within : e.natAbs ≤ 2000000000 ∨ s.timebase.acceptance ≠ .none) :
    (s.notePps x).applyError x e = (s.lockedForPps x e).correct x e s.timebase.correction.isPause := by
  unfold State.applyError
  rw [if_neg]
  · rfl
  · rintro ⟨large, none⟩
    rcases within with small | accepted
    · unfold correctionLimit at large
      omega
    · exact accepted (by simpa using none)

section
variable (s : State) (x : Nat) {e : Int} (w : Bool)

theorem State.correct_zero : s.correct x 0 w = s := by simp [State.correct]

theorem State.correct_slew (ne : e ≠ 0) (small : e.natAbs ≤ 200000) :
    s.correct x e w = s.setCorrection (.slew e s.timebase.elapsed) := by
  unfold State.correct
  rw [if_neg ne, if_pos (by unfold slewLimit; omega)]

theorem State.correct_step (large : 200000 < e) : s.correct x e w = s.stepTo x := by
  unfold State.correct
  rw [if_neg (by omega), if_neg (by unfold slewLimit; omega), if_pos (by omega)]

theorem State.correct_pause (large : e < -200000) : s.correct x e w = s.beginPause e.natAbs w := by
  unfold State.correct
  rw [if_neg (by omega), if_neg (by unfold slewLimit; omega), if_neg (by omega)]

end

/-! ### The invariant -/

/-- Local time of `b`, when `a` has one, is not before that of `a` (R2). -/
def NotBefore (a b : Timebase) : Prop :=
  ∀ t₀, a.localTime = some t₀ → ∃ t₁, b.localTime = some t₁ ∧
    t₀.second * 1000000000 + t₀.ns ≤ t₁.second * 1000000000 + t₁.ns

theorem NotBefore.of_eq {a b : Timebase} (h : b.localTime = a.localTime) : NotBefore a b :=
  fun t₀ h₀ => ⟨t₀, h.trans h₀, Nat.le_refl _⟩

/-- The timebase after reset keeps its laws. -/
theorem TimebaseInv.reset : TimebaseInv Timebase.reset := by
  simp [TimebaseInv, Timebase.reset]

/-- What the laws do not speak of: elapsed time, the receiver, the last second event. -/
theorem TimebaseInv.of_same {a b : Timebase} (h : TimebaseInv a)
    (e : b = { a with elapsed := b.elapsed, rx := b.rx, lastSecondEvent := b.lastSecondEvent }) : TimebaseInv b := by
  rw [e]
  exact h

/-- A message kept keeps the laws when its second fits (R6). -/
theorem TimebaseInv.keepMessage {tb : Timebase} (h : TimebaseInv tb) {m : TimeMessage} (fits : m.marked < 2 ^ 32) :
    TimebaseInv { tb with latest := some m, messageSincePps := true } := by
  obtain ⟨unset, era, loss, hold, rejected, armed, held, idle, marked, prev, msg, prevSome, latest⟩ := h
  refine ⟨unset, era, loss, hold, rejected, armed, held, idle, ?_, prev, by simp, by simp, by simp⟩
  rintro m' ⟨rfl⟩
  exact fits

/-- A PPS noted keeps the laws (R7). -/
theorem TimebaseInv.notePps {tb : Timebase} (h : TimebaseInv tb) {x : Nat} (fits : x < 2 ^ 32) :
    TimebaseInv { tb with prevSecond := some x, messageSincePps := false } := by
  obtain ⟨unset, era, loss, hold, rejected, armed, held, idle, marked, prev, msg, prevSome, latest⟩ := h
  refine ⟨unset, era, loss, hold, rejected, armed, held, idle, marked, ?_, by simp, by simp, latest⟩
  rintro x' ⟨rfl⟩
  exact fits

/-- A PPS that leaves the timebase LOCKED keeps the laws, when HELD stands with a pause alone (R5, R9, R16). -/
theorem TimebaseInv.locked {tb : Timebase} (h : TimebaseInv tb) {x : Nat} (fits : x < 2 ^ 32)
    (received : tb.latest.isSome = true) {t : LocalTime}
    (inEra : t.second < 2 ^ 32 ∧ t.ns < 1000000000 ∧ t.ns % 10 = 0) {c : Correction} {a : Acceptance}
    (notArmed : a ≠ .armed) (heldPause : a = .held → c.isPause = true) (event : Option Nat) :
    TimebaseInv { lockedBy x tb with
      localTime := some t
      correction := c
      acceptance := a
      lastSecondEvent := event } := by
  obtain ⟨unset, era, loss, hold, rejected, armed, held, idle, marked, prev, msg, prevSome, latest⟩ := h
  refine ⟨by simp [lockedBy], ?_, by simp [lockedBy], by simp [lockedBy], by simp [lockedBy], fun e => absurd e notArmed,
    fun e => ⟨rfl, heldPause e⟩, by simp [lockedBy], marked, ?_, by simp [lockedBy], by simp [lockedBy], fun _ => received⟩
  · rintro t' ⟨rfl⟩
    exact inEra
  · rintro x' ⟨rfl⟩
    exact fits

/-- A rejection keeps the laws (R14). -/
theorem TimebaseInv.reject {tb : Timebase} (h : TimebaseInv tb) (received : tb.latest.isSome = true)
    (set : tb.localTime ≠ none) (acceptance : tb.acceptance = .none) (e : Int) :
    TimebaseInv { tb with
      correction := .none
      state := .rejected
      rejectedError := some e
      lossTimer := none
      holdoverTimer := none } := by
  obtain ⟨unset, era, loss, hold, rejected, armed, held, idle, marked, prev, msg, prevSome, latest⟩ := h
  exact ⟨by simp [set], era, by simp, by simp, by simp, by simp [acceptance], by simp [acceptance], by simp, marked, prev,
    msg, prevSome, fun _ => received⟩

/-- A timebase whose announced seconds fit announces a second that fits (R7). -/
theorem TimebaseInv.announced_lt {tb : Timebase} (h : TimebaseInv tb) {a : Nat × Bool} (ha : tb.announced = some a) :
    a.1 < 2 ^ 32 ∧ tb.latest.isSome = true := by
  obtain ⟨-, -, -, -, -, -, -, -, marked, prev, -, -, -⟩ := h
  unfold Timebase.announced at ha
  split at ha
  next => cases ha
  next m hm =>
    split at ha
    next => cases ha; exact ⟨marked m hm, by simp [hm]⟩
    next =>
      obtain ⟨x, hx, rfl⟩ := Option.map_eq_some_iff.mp ha
      refine ⟨?_, by simp [hm]⟩
      dsimp only [secondPlusOne]
      split
      next lt => simp only [lastSecond] at lt; omega
      next => exact Config.announcedAfterEra.isLt

/-- Acceptance after a PPS is never ARMED. -/
theorem Acceptance.afterPps_ne_armed (a : Acceptance) (e : Int) : a.afterPps e ≠ .armed := by
  unfold Acceptance.afterPps
  split
  · simp
  · split <;> simp

/-- Acceptance is HELD by a PPS of an error below −2 s alone (R16). -/
theorem Acceptance.afterPps_held {a : Acceptance} {e : Int} (h : a.afterPps e = .held) : e < -2000000000 := by
  unfold Acceptance.afterPps at h
  split at h
  · cases h
  · split at h
    · assumption
    · cases h

/-- A PPS of error `e` applied with local time set keeps the laws, and sets local time forward alone (R9 to R16). -/
theorem State.applyError_timebaseInv {s : State} {x : Nat} {t : LocalTime} (h : TimebaseInv s.timebase) (fits : x < 2 ^ 32)
    (received : s.timebase.latest.isSome = true) (set : s.timebase.localTime = some t) :
    TimebaseInv ((s.notePps x).applyError x (errorOf x t)).timebase ∧
      NotBefore s.timebase ((s.notePps x).applyError x (errorOf x t)).timebase := by
  have inEra := h.2.1 t set
  by_cases within : (errorOf x t).natAbs ≤ 2000000000 ∨ s.timebase.acceptance ≠ .none
  case neg =>
    have none : s.timebase.acceptance = .none := by
      by_contra hne
      exact within (.inr hne)
    rw [State.applyError_rejects s x _ (by omega) none]
    refine ⟨?_, .of_eq (by simp)⟩
    simpa using (h.notePps fits).reject received (by simp [set]) none (errorOf x t)
  case pos =>
    rw [State.applyError_corrects s x _ within]
    have locked := fun t' inEra' c heldPause event => h.locked fits received (t := t') inEra' (c := c)
      (s.timebase.acceptance.afterPps_ne_armed (errorOf x t)) heldPause event
    rcases lt_or_ge (errorOf x t) (-200000) with below | notBelow
    · rw [State.correct_pause _ x _ below]
      refine ⟨?_, .of_eq (by simp [lockedBy])⟩
      simpa [lockedBy, set] using locked t inEra (.pause _) (fun _ => rfl) s.timebase.lastSecondEvent
    · have notHeld : ∀ {c : Correction}, s.timebase.acceptance.afterPps (errorOf x t) = .held → c.isPause = true :=
        fun held => by have := Acceptance.afterPps_held held; omega
      rcases lt_or_ge 200000 (errorOf x t) with above | small
      · rw [State.correct_step _ x _ above]
        refine ⟨?_, ?_⟩
        · simpa [lockedBy] using locked (.ofSecond x) ⟨fits, by simp [LocalTime.ofSecond]⟩ .none notHeld (some x)
        · intro t₀ h₀
          cases set.symm.trans h₀
          refine ⟨.ofSecond x, by simp, ?_⟩
          simp only [errorOf] at above
          simp only [LocalTime.ofSecond]
          omega
      · by_cases zero : errorOf x t = 0
        · rw [zero, State.correct_zero]
          refine ⟨?_, .of_eq (by simp [lockedBy])⟩
          simpa [lockedBy, set, zero] using locked t inEra .none notHeld s.timebase.lastSecondEvent
        · rw [State.correct_slew _ x _ zero (by omega)]
          refine ⟨?_, .of_eq (by simp [lockedBy])⟩
          simpa [lockedBy, set] using locked t inEra (.slew _ _) notHeld s.timebase.lastSecondEvent

/-- A PPS edge keeps the laws of the timebase and sets local time forward alone. -/
theorem State.ppsEdge_timebaseInv {s : State} (h : TimebaseInv s.timebase) :
    TimebaseInv s.ppsEdge.timebase ∧ NotBefore s.timebase s.ppsEdge.timebase := by
  unfold State.ppsEdge
  split
  next => exact ⟨h, .of_eq rfl⟩
  next a ha =>
    obtain ⟨fits, received⟩ := h.announced_lt ha
    dsimp only
    split
    next =>
      split
      next unset =>
        have noAcceptance : s.timebase.acceptance = .none := by
          obtain ⟨hu, -, -, -, -, armed, held, -⟩ := h
          have st := hu.mpr unset
          cases e : s.timebase.acceptance with
          | none => rfl
          | armed => simp [armed e] at st
          | held => simp [(held e).1] at st
        refine ⟨?_, fun t₀ h₀ => by simp [unset] at h₀⟩
        have locked := h.locked fits received (t := .ofSecond a.1) ⟨fits, by simp [LocalTime.ofSecond]⟩
          (c := s.timebase.correction) (a := .none) (by simp) (by simp) (some a.1)
        simpa [lockedBy, noAcceptance] using locked
      next t set =>
        rw [State.applyPps, ppsError_eq]
        exact State.applyError_timebaseInv h fits received set
    next => exact ⟨by simpa using h.notePps fits, .of_eq (by simp)⟩

/-- The loss of the PPS keeps the laws (R5, R16). -/
theorem State.ppsLoss_timebaseInv {s : State} (h : TimebaseInv s.timebase) : TimebaseInv s.ppsLoss.timebase := by
  unfold State.ppsLoss
  split
  next due =>
    obtain ⟨unset, era, loss, hold, rejected, armed, held, idle, marked, prev, msg, prevSome, latest⟩ := h
    have locked : s.timebase.state = .locked := by
      rw [← loss]
      cases e : s.timebase.lossTimer with
      | none => simp [State.timerDue, e] at due
      | some d => rfl
    have notArmed : s.timebase.acceptance ≠ .armed := fun e => by simp [armed e] at locked
    simp only [locked] at unset rejected latest
    simp only [State.enterTimeState_timebase]
    refine ⟨by simpa using unset, era, by simp, by simp, by simpa using rejected, ?_, ?_, by simp, marked, prev, msg,
      prevSome, fun _ => latest (by simp)⟩
    · split <;> simp [notArmed]
    · split <;> simp [*]
  next => exact h

/-- The end of the holdover limit keeps the laws (R5). -/
theorem State.holdoverEnd_timebaseInv {s : State} (h : TimebaseInv s.timebase) : TimebaseInv s.holdoverEnd.timebase := by
  unfold State.holdoverEnd
  split
  next due =>
    obtain ⟨unset, era, loss, hold, rejected, armed, held, idle, marked, prev, msg, prevSome, latest⟩ := h
    have holdover : s.timebase.state = .holdover := by
      rw [← hold]
      cases e : s.timebase.holdoverTimer with
      | none => simp [State.timerDue, e] at due
      | some d => rfl
    simp only [holdover] at unset loss rejected armed held latest
    simp only [State.enterTimeState_timebase]
    exact ⟨by simpa using unset, era, by simpa using loss, by simp, by simpa using rejected,
      fun e => by simpa using armed e, fun e => by simpa using (held e).1, by simp, marked, prev, msg, prevSome,
      fun _ => latest (by simp)⟩
  next => exact h

/-- The end of a slew keeps the laws (R10). -/
theorem State.slewEnd_timebaseInv {s : State} (h : TimebaseInv s.timebase) : TimebaseInv s.slewEnd.timebase := by
  unfold State.slewEnd
  split
  next due =>
    obtain ⟨unset, era, loss, hold, rejected, armed, held, idle, rest⟩ := h
    refine ⟨unset, era, loss, hold, rejected, armed, fun e => ?_, fun _ => rfl, rest⟩
    have pause := (held e).2
    cases c : s.timebase.correction <;> simp_all [State.timerDue, Correction.slewEnds, Correction.isPause]
  next => exact h

/-- The end of a pause keeps the laws (R12, R16). -/
theorem State.pauseEnd_timebaseInv {s : State} (h : TimebaseInv s.timebase) : TimebaseInv s.pauseEnd.timebase := by
  unfold State.pauseEnd
  split
  next due =>
    obtain ⟨unset, era, loss, hold, rejected, armed, held, idle, rest⟩ := h
    simp only [State.expireAll_timebase, State.setCorrection_timebase]
    refine ⟨unset, era, loss, hold, rejected, fun e => ?_, fun e => ?_, fun _ => rfl, rest⟩
    · split at e
      · cases e
      · exact armed e
    · split at e
      · cases e
      · contradiction
  next => exact h

/-- A time message carries a 32-bit second (R6, R186). -/
theorem checkTimeMessage_marked {bytes : List Byte} {m : TimeMessage} (h : checkTimeMessage bytes = some m) :
    m.marked < 2 ^ 32 := by
  unfold checkTimeMessage at h
  split at h
  · cases h
    have lt := valueOf_lt ((bytes.drop 0).take 4)
    have short : ((bytes.drop 0).take 4).length ≤ 4 := by simp
    calc field bytes 0 4 < 256 ^ ((bytes.drop 0).take 4).length := lt
      _ ≤ 256 ^ 4 := Nat.pow_le_pow_right (by decide) short
      _ = 2 ^ 32 := by decide
  · cases h

/-- Characters on the timing serial line keep the laws and local time (R6, R187). -/
theorem State.timeLine_timebaseInv {s : State} (h : TimebaseInv s.timebase) (line : List LineEvent) :
    TimebaseInv (s.timeLine line).timebase ∧ (s.timeLine line).timebase.localTime = s.timebase.localTime := by
  have event : ∀ (u : State) (e : LineEvent), TimebaseInv u.timebase →
      TimebaseInv (u.timeEvent e).timebase ∧ (u.timeEvent e).timebase.localTime = u.timebase.localTime := by
    intro u e hu
    unfold State.timeEvent State.timeArrival
    dsimp only
    split
    · split
      next m hm => exact ⟨TimebaseInv.keepMessage hu (checkTimeMessage_marked hm), rfl⟩
      next => exact ⟨hu, rfl⟩
    · exact ⟨hu, rfl⟩
  have fold : ∀ (es : List LineEvent) (u : State), TimebaseInv u.timebase →
      TimebaseInv (es.foldl State.timeEvent u).timebase ∧
        (es.foldl State.timeEvent u).timebase.localTime = u.timebase.localTime := by
    intro es
    induction es with
    | nil => exact fun u hu => ⟨hu, rfl⟩
    | cons e es ih =>
      intro u hu
      obtain ⟨inv, same⟩ := event u e hu
      obtain ⟨inv', same'⟩ := ih _ inv
      exact ⟨inv', same'.trans same⟩
  exact fold _ s h

/-- ACCEPT REFERENCE keeps the laws and local time (R15). -/
theorem State.acceptReference_timebaseInv {s : State} (h : TimebaseInv s.timebase) :
    TimebaseInv s.acceptReference.1.timebase ∧ s.acceptReference.1.timebase.localTime = s.timebase.localTime := by
  unfold State.acceptReference
  split
  next rej =>
    obtain ⟨unset, era, loss, hold, rejected, armed, held, rest⟩ := h
    refine ⟨⟨unset, era, loss, hold, rejected, fun _ => rej, ?_, rest⟩, rfl⟩
    intro accepted
    cases accepted
  next => exact ⟨h, rfl⟩

/-! ### One oscillator period -/

/-- How far local time advances is on its 10 ns grid (R10). -/
theorem Correction.advance_mod (c : Correction) (now : Nat) : c.advance now % 10 = 0 := by
  cases c with
  | none => simp [Correction.advance]
  | pause ends => simp [Correction.advance]
  | slew e start =>
    dsimp only [Correction.advance, slewApplied]
    split <;> omega

/-- The normal form of a count of ns within the era (R2). -/
theorem LocalTime.ofNs_spec (n : Nat) : (LocalTime.ofNs n).ns < 1000000000 ∧
    (LocalTime.ofNs n).second * 1000000000 + (LocalTime.ofNs n).ns
      = min n (4294967295 * 1000000000 + 999999990) := by
  have last : lastLocalNs = 4294967295 * 1000000000 + 999999990 := rfl
  have div := Nat.div_add_mod (min n lastLocalNs) 1000000000
  have mod := Nat.mod_lt (min n lastLocalNs) (show 0 < 1000000000 by decide)
  rw [← last]
  refine ⟨mod, ?_⟩
  change min n lastLocalNs / 1000000000 * 1000000000 + min n lastLocalNs % 1000000000 = _
  omega

/-- Local time stays on its grid and within the era, and does not go back, over one oscillator period (R2). -/
theorem LocalTime.advance_spec {t : LocalTime} (inEra : t.second < 2 ^ 32 ∧ t.ns < 1000000000 ∧ t.ns % 10 = 0)
    (c : Correction) (now : Nat) :
    ((t.advance c now).second < 2 ^ 32 ∧ (t.advance c now).ns < 1000000000 ∧ (t.advance c now).ns % 10 = 0) ∧
      t.second * 1000000000 + t.ns ≤ (t.advance c now).second * 1000000000 + (t.advance c now).ns := by
  have grid := c.advance_mod now
  obtain ⟨ns, value⟩ := LocalTime.ofNs_spec (t.toNs + c.advance now)
  obtain ⟨second, below, mod⟩ := inEra
  have start : t.toNs = t.second * 1000000000 + t.ns := by simp [LocalTime.toNs, nsPerSecond]
  unfold LocalTime.advance
  generalize c.advance now = d at *
  generalize LocalTime.ofNs (t.toNs + d) = u at *
  omega

/-- One oscillator period keeps the laws, and local time does not go back (R1, R2). -/
theorem State.tick_timebaseInv {s : State} (h : TimebaseInv s.timebase) :
    TimebaseInv s.tick.timebase ∧ NotBefore s.timebase s.tick.timebase := by
  obtain ⟨unset, era, rest⟩ := h
  refine ⟨⟨by simpa [State.tick] using unset, ?_, rest⟩, ?_⟩
  · intro t ht
    obtain ⟨t₀, h₀, rfl⟩ := Option.map_eq_some_iff.mp ht
    exact (LocalTime.advance_spec (era t₀ h₀) _ _).1
  · intro t₀ h₀
    exact ⟨t₀.advance s.timebase.correction (elapsedPlusOne s.timebase.elapsed), by simp [State.tick, h₀],
      (LocalTime.advance_spec (era t₀ h₀) _ _).2⟩

/-! ### Every command -/

/-- A request that touches the frame keeps the timebase as its owner does. -/
theorem State.serve_timebase {p : PortId} {owner : State → State × Reply}
    (work : ∀ u, (owner u).1.timebase = u.timebase) (s : State) (c : Instr) (tag : Byte) :
    (s.whileOperating fun u => u.serve c p tag owner).timebase = s.timebase :=
  State.whileOperating_preserves (P := fun u => u.timebase = s.timebase) rfl <|
    State.serve_preserves (P := fun u => u.timebase = s.timebase) (fun _ _ _ hu => hu)
      (fun u hu => (work u).trans hu) rfl c tag

theorem State.subscribe_timebase (s : State) (p : PortId) (kinds start count : Byte) (indices : List Byte) :
    (s.subscribe p kinds start count indices).1.timebase = s.timebase := by
  unfold State.subscribe
  split <;> rfl

theorem State.readSnapshotNext_timebase (s : State) (p : PortId) (kind : Byte) :
    (s.readSnapshotNext p kind).1.timebase = s.timebase := by
  unfold State.readSnapshotNext State.readNext
  dsimp only
  repeat' split
  all_goals rfl

theorem State.commitNow_timebase (s : State) (p : PortId) : (s.commitNow p).1.timebase = s.timebase := by
  unfold State.commitNow
  split
  · rfl
  · split
    · rfl
    · split
      · rfl
      · simp

theorem State.portReset_timebase (s : State) (p : PortId) : (s.portReset p).1.timebase = s.timebase := by
  unfold State.portReset
  dsimp only
  split <;> simp

/-- A command, in any state of the timebase that keeps the laws: they are kept, and local time does not go back unless
the command is a reset (R2). -/
theorem exec_timebaseInv {c : Instr} {s : State} (h : TimebaseInv s.timebase) : ∀ t, exec c s = .next t →
    TimebaseInv t.timebase ∧ (Instr.isReset c = false → NotBefore s.timebase t.timebase) := by
  have same : ∀ {u : State}, u.timebase = s.timebase →
      TimebaseInv u.timebase ∧ (Instr.isReset c = false → NotBefore s.timebase u.timebase) :=
    fun e => ⟨e ▸ h, fun _ => .of_eq (by rw [e])⟩
  have acting : ∀ {f : State → State}, (TimebaseInv (f s).timebase ∧ NotBefore s.timebase (f s).timebase) →
      TimebaseInv (s.whileOperating f).timebase ∧
        (Instr.isReset c = false → NotBefore s.timebase (s.whileOperating f).timebase) := by
    intro f hf
    unfold State.whileOperating
    split
    · exact ⟨hf.1, fun _ => hf.2⟩
    · exact same rfl
  intro t ht
  by_cases quiet : Instr.touchesFrame c = false
  · exact same (exec_keeps quiet ht).timebase
  cases c with
  | powerOn | supplyBelowLimit | resetLine =>
    obtain rfl := Host.Outcome.next.inj ht
    exact ⟨TimebaseInv.reset, fun no => by cases no⟩
  | resetLineRelease =>
    obtain rfl := Host.Outcome.next.inj ht
    split
    · exact ⟨h, fun _ => .of_eq rfl⟩
    · exact same rfl
  | timeMessage line =>
    obtain rfl := Host.Outcome.next.inj ht
    obtain ⟨inv, local_⟩ := State.timeLine_timebaseInv h line
    exact acting ⟨inv, .of_eq local_⟩
  | ppsEdge =>
    obtain rfl := Host.Outcome.next.inj ht
    exact acting (State.ppsEdge_timebaseInv h)
  | ppsLossTimerExpiry =>
    obtain rfl := Host.Outcome.next.inj ht
    refine acting ⟨State.ppsLoss_timebaseInv h, .of_eq ?_⟩
    unfold State.ppsLoss
    split <;> simp
  | holdoverLimitExpiry =>
    obtain rfl := Host.Outcome.next.inj ht
    refine acting ⟨State.holdoverEnd_timebaseInv h, .of_eq ?_⟩
    unfold State.holdoverEnd
    split <;> simp
  | slewEnd =>
    obtain rfl := Host.Outcome.next.inj ht
    refine acting ⟨State.slewEnd_timebaseInv h, .of_eq ?_⟩
    unfold State.slewEnd
    split <;> simp
  | pauseEnd =>
    obtain rfl := Host.Outcome.next.inj ht
    refine acting ⟨State.pauseEnd_timebaseInv h, .of_eq ?_⟩
    unfold State.pauseEnd
    split <;> simp
  | secondBoundary =>
    obtain rfl := Host.Outcome.next.inj ht
    exact acting ⟨h.of_same (by rw [State.takeDueSecond_timebase]), .of_eq (by rw [State.takeDueSecond_timebase])⟩
  | epochBoundary =>
    obtain rfl := Host.Outcome.next.inj ht
    exact same (State.whileOperating_preserves (P := fun u => u.timebase = s.timebase) rfl (by split <;> simp))
  | fastDeadlineExpiry e =>
    obtain rfl := Host.Outcome.next.inj ht
    exact same (State.whileOperating_preserves (P := fun u => u.timebase = s.timebase) rfl (by simp))
  | fullDeadlineExpiry e =>
    obtain rfl := Host.Outcome.next.inj ht
    exact same (State.whileOperating_preserves (P := fun u => u.timebase = s.timebase) rfl (by simp))
  | tableTakeRecord =>
    obtain rfl := Host.Outcome.next.inj ht
    exact same (State.whileOperating_preserves (P := fun u => u.timebase = s.timebase) rfl (by simp))
  | subscribe p tag kinds start count indices =>
    obtain rfl := Host.Outcome.next.inj ht
    exact same (State.serve_timebase (fun u => orMalformed_preserves (P := fun v => v.timebase = u.timebase) rfl
      (u.subscribe_timebase p kinds start count indices)) s _ tag)
  | readSnapshotNext p tag kind unused =>
    obtain rfl := Host.Outcome.next.inj ht
    exact same (State.serve_timebase (fun u => u.readSnapshotNext_timebase p kind) s _ tag)
  | commitSwitchNow p tag ignored =>
    obtain rfl := Host.Outcome.next.inj ht
    exact same (State.serve_timebase (fun u => u.commitNow_timebase p) s _ tag)
  | acceptReference p tag =>
    obtain rfl := Host.Outcome.next.inj ht
    have kept := State.serve_preserves (p := p) (owner := State.acceptReference)
      (P := fun u => TimebaseInv u.timebase ∧ u.timebase.localTime = s.timebase.localTime) (fun _ _ _ hu => hu)
      (fun u hu => by
        obtain ⟨inv, local_⟩ := State.acceptReference_timebaseInv hu.1
        exact ⟨inv, local_.trans hu.2⟩)
      ⟨h, rfl⟩ (.acceptReference p tag) tag
    exact acting ⟨kept.1, .of_eq kept.2⟩
  | clearAlignment p tag =>
    obtain rfl := Host.Outcome.next.inj ht
    exact same (State.serve_timebase (fun u => by simp [State.clearAlignment]) s _ tag)
  | portReset p tag =>
    obtain rfl := Host.Outcome.next.inj ht
    exact same (State.serve_timebase (fun u => u.portReset_timebase p) s _ tag)
  | _ => exact absurd rfl quiet

/-- The idle part keeps the laws, and local time does not go back (R1, R2). -/
theorem State.idle_timebaseInv {s : State} (h : TimebaseInv s.timebase) :
    TimebaseInv s.idle.timebase ∧ NotBefore s.timebase s.idle.timebase := by
  unfold State.idle
  split
  · exact State.whileOperating_preserves
      (P := fun u => TimebaseInv u.timebase ∧ NotBefore s.timebase u.timebase) ⟨h, .of_eq rfl⟩ (State.tick_timebaseInv h)
  · exact ⟨h, .of_eq rfl⟩

/-- Settles O57: each command, and the idle step, keeps the laws and the order of local time. -/
theorem timebaseInvariant : Obligations.TimebaseInvariant := by
  unfold Obligations.TimebaseInvariant
  intro s t h ht
  unfold step at ht
  split at ht
  next =>
    obtain rfl := Host.Outcome.next.inj ht
    obtain ⟨inv, order⟩ := State.idle_timebaseInv h
    exact ⟨inv, fun _ => order⟩
  next c rest pending =>
    obtain ⟨inv, order⟩ := exec_timebaseInv (s := { s with pending := rest }) h t ht
    exact ⟨inv, fun noReset => order (noReset c rest pending)⟩

end Sys2Proof.Machine
end

section
/-! PROOFS. The alignment table's laws as a property of the table alone, and what each operation on its slots keeps of
them (R60 to R66, R72 to R85). -/

namespace Sys2Proof.Machine

/-! ### The laws -/

/-- The laws of `TableInv` that speak of the table alone, by name. -/
structure AlignTable.Laws (t : AlignTable) : Prop where
  slot : ∀ sl ∈ t.slots, SlotInv sl
  order : t.slots.Pairwise fun a b => EpochKey.older a.key b.key
  horizon : ∀ sl ∈ t.slots, ∃ h, t.horizon = some h ∧ ¬ EpochKey.older h sl.key
  numbers : (t.slots.map Slot.number).Nodup
  fastFirst : t.slots.Pairwise fun a b => b.fastCut.isSome = true → a.fastCut.isSome = true
  fullFirst : t.slots.Pairwise fun a b => b.fullCut.isSome = true → a.fullCut.isSome = true
  fastRun : RunUpTo t.nextFast (t.slots.filterMap fun sl => sl.fastCut.map Cut.seq)
  fullRun : RunUpTo t.nextFull (t.slots.filterMap fun sl => sl.fullCut.map Cut.seq)

/-- Outside ALIGNING there is no slot (R20). -/
def State.EmptyOutsideAligning (s : State) : Prop :=
  s.store.active = none ∨ s.timebase.localTime = none → s.table.slots = []

theorem tableInv_iff (s : State) : TableInv s ↔ s.table.Laws ∧ s.EmptyOutsideAligning := by
  constructor
  · rintro ⟨slot, order, horizon, numbers, fastFirst, fullFirst, fastRun, fullRun, empty⟩
    exact ⟨⟨slot, order, horizon, numbers, fastFirst, fullFirst, fastRun, fullRun⟩, empty⟩
  · rintro ⟨⟨slot, order, horizon, numbers, fastFirst, fullFirst, fastRun, fullRun⟩, empty⟩
    exact ⟨slot, order, horizon, numbers, fastFirst, fullFirst, fastRun, fullRun, empty⟩

/-! ### Runs of numbers -/

theorem RunUpTo.pos {next : Nat} {l : List Nat} (h : RunUpTo next l) : 0 < next := by
  obtain ⟨n, lt, -⟩ := h
  omega

theorem RunUpTo.nil {next : Nat} (h : 0 < next) : RunUpTo next [] := ⟨0, h, rfl⟩

/-- A run without its first number is a run. -/
theorem RunUpTo.tail {next x : Nat} {l : List Nat} (h : RunUpTo next (x :: l)) : RunUpTo next l := by
  obtain ⟨n, lt, e⟩ := h
  cases n with
  | zero => cases e
  | succ n =>
    rw [List.range'_succ] at e
    obtain ⟨-, rfl⟩ := List.cons.inj e
    exact ⟨n, by omega, by rw [show next - (n + 1) + 1 = next - n by omega]⟩

/-- A run goes on with the next numbers. -/
theorem RunUpTo.append {next k : Nat} {l : List Nat} (h : RunUpTo next l) :
    RunUpTo (next + k) (l ++ List.range' next k) := by
  obtain ⟨n, lt, rfl⟩ := h
  refine ⟨n + k, by omega, ?_⟩
  rw [show next + k - (n + k) = next - n by omega, ← List.range'_append_1, show next - n + n = next by omega]

/-- Every number of a run is below the next one. -/
theorem RunUpTo.lt {next x : Nat} {l : List Nat} (h : RunUpTo next l) (hx : x ∈ l) : x < next := by
  obtain ⟨n, lt, rfl⟩ := h
  have := List.mem_range'_1.mp hx
  omega

/-! ### Slots changed in place -/

/-- A slot with the key, the number and the cuts of another. -/
def Slot.SameCuts (a b : Slot) : Prop :=
  b.key = a.key ∧ b.number = a.number ∧ b.fastCut = a.fastCut ∧ b.fullCut = a.fullCut

/-- Slots changed in place, each keeping its key, its number, its cuts and the laws of a slot, keep the table's laws. -/
theorem AlignTable.Laws.of_map {t : AlignTable} (h : t.Laws) (f : Slot → Slot)
    (same : ∀ sl ∈ t.slots, sl.SameCuts (f sl)) (slot : ∀ sl ∈ t.slots, SlotInv (f sl)) :
    ({ t with slots := t.slots.map f } : AlignTable).Laws := by
  have key : ∀ sl ∈ t.slots, (f sl).key = sl.key := fun sl hm => (same sl hm).1
  have fast : ∀ sl ∈ t.slots, (f sl).fastCut = sl.fastCut := fun sl hm => (same sl hm).2.2.1
  have full : ∀ sl ∈ t.slots, (f sl).fullCut = sl.fullCut := fun sl hm => (same sl hm).2.2.2
  refine ⟨?_, ?_, ?_, ?_, ?_, ?_, ?_, ?_⟩
  · exact fun sl hm => by
      obtain ⟨o, ho, rfl⟩ := List.mem_map.mp hm
      exact slot o ho
  · rw [List.pairwise_map]
    exact h.order.imp_of_mem fun ha hb r => by rwa [key _ ha, key _ hb]
  · intro sl hm
    obtain ⟨o, ho, rfl⟩ := List.mem_map.mp hm
    rw [key o ho]
    exact h.horizon o ho
  · have numbers : (t.slots.map f).map Slot.number = t.slots.map Slot.number := by
      rw [List.map_map]
      exact List.map_congr_left fun sl hm => (same sl hm).2.1
    rw [numbers]
    exact h.numbers
  · rw [List.pairwise_map]
    exact h.fastFirst.imp_of_mem fun ha hb r => by rwa [fast _ ha, fast _ hb]
  · rw [List.pairwise_map]
    exact h.fullFirst.imp_of_mem fun ha hb r => by rwa [full _ ha, full _ hb]
  · rw [List.filterMap_map]
    have numbers : t.slots.filterMap ((fun sl => sl.fastCut.map Cut.seq) ∘ f)
        = t.slots.filterMap fun sl => sl.fastCut.map Cut.seq :=
      List.filterMap_congr fun sl hm => by simp [fast sl hm]
    rw [numbers]
    exact h.fastRun
  · rw [List.filterMap_map]
    have numbers : t.slots.filterMap ((fun sl => sl.fullCut.map Cut.seq) ∘ f)
        = t.slots.filterMap fun sl => sl.fullCut.map Cut.seq :=
      List.filterMap_congr fun sl hm => by simp [full sl hm]
    rw [numbers]
    exact h.fullRun

/-- The slot of an epoch changed. -/
theorem AlignTable.Laws.modify {t : AlignTable} (h : t.Laws) (e : EpochKey) {f : Slot → Slot}
    (same : ∀ sl : Slot, sl.SameCuts (f sl)) (slot : ∀ sl ∈ t.slots, sl.key = e → SlotInv (f sl)) :
    (t.modify e f).Laws := by
  refine h.of_map _ (fun sl _ => ?_) fun sl hm => ?_
  · split
    · exact same sl
    · exact ⟨rfl, rfl, rfl, rfl⟩
  · split
    next he => exact slot sl hm he
    next => exact h.slot sl hm

/-- The laws of a table do not speak of the mark or the last generation, nor of H while it has no slot. -/
theorem AlignTable.Laws.of_same {t u : AlignTable} (h : t.Laws) (slots : u.slots = t.slots)
    (horizon : u.horizon = t.horizon ∨ t.slots = []) (nextFast : u.nextFast = t.nextFast)
    (nextFull : u.nextFull = t.nextFull) : u.Laws := by
  obtain ⟨slot, order, hor, numbers, fastFirst, fullFirst, fastRun, fullRun⟩ := h
  refine ⟨slots ▸ slot, slots ▸ order, ?_, slots ▸ numbers, slots ▸ fastFirst, slots ▸ fullFirst,
    by rwa [nextFast, slots], by rwa [nextFull, slots]⟩
  rcases horizon with e | e
  · rwa [e, slots]
  · simp [slots, e]

/-- A table without slots keeps the laws when its next numbers are not 0. -/
theorem AlignTable.Laws.of_empty {t : AlignTable} (slots : t.slots = []) (fast : 0 < t.nextFast) (full : 0 < t.nextFull) :
    t.Laws := by
  refine ⟨?_, ?_, ?_, ?_, ?_, ?_, ?_, ?_⟩
  · simp [slots]
  · simp [slots]
  · simp [slots]
  · simp [slots]
  · simp [slots]
  · simp [slots]
  · rw [slots]; exact .nil fast
  · rw [slots]; exact .nil full

theorem AlignTable.Laws.reset : AlignTable.reset.Laws := .of_empty rfl (by decide) (by decide)

/-! ### One slot -/

/-- A fast deadline that makes an OPEN slot ready keeps its laws (R78). -/
theorem SlotInv.fastDeadline {sl : Slot} (h : SlotInv sl) (opened : sl.fastCut = none) :
    SlotInv { sl with fastReady := some .deadline } := by
  obtain ⟨follows, fast, full, noGating, gating, expected, late⟩ := h
  exact ⟨follows, by simp [opened], full, noGating, gating, expected, late⟩

/-- A full deadline that makes an unready slot ready keeps its laws (R78). -/
theorem SlotInv.fullDeadline {sl : Slot} (h : SlotInv sl) (unready : sl.fullReady = none) :
    SlotInv { sl with fullReady := some .deadline } := by
  obtain ⟨follows, fast, full, noGating, gating, expected, late⟩ := h
  refine ⟨follows, fast, fun c hc => ?_, by simp, gating, expected, late⟩
  have := full c hc
  simp [unready] at this

/-- A fast cut given by a slot's readiness keeps its laws (R81). -/
theorem SlotInv.cutFast {sl : Slot} (h : SlotInv sl) {c : Cause} (ready : sl.fastReady = some c) (n : Nat) :
    SlotInv { sl with fastCut := some ⟨c, n⟩ } := by
  obtain ⟨follows, fast, full, noGating, gating, expected, late⟩ := h
  refine ⟨fun _ => rfl, ?_, full, noGating, gating, expected, fun _ _ _ _ => rfl⟩
  rintro c' ⟨rfl⟩
  exact ready

/-- A full cut given by a slot's readiness, behind its fast cut, keeps its laws (R82). -/
theorem SlotInv.cutFull {sl : Slot} (h : SlotInv sl) {c : Cause} (cut : sl.fastCut.isSome = true)
    (ready : sl.fullReady = some c) (n : Nat) : SlotInv { sl with fullCut := some ⟨c, n⟩ } := by
  obtain ⟨follows, fast, full, noGating, gating, expected, late⟩ := h
  refine ⟨fun _ => cut, fast, ?_, noGating, gating, expected, late⟩
  rintro c' ⟨rfl⟩
  exact ready

/-- Judging leaves a readiness that stands, and gives no full readiness the cause GATING (R76, R77). -/
theorem Slot.judge_ready (sl : Slot) :
    (∀ c, sl.fastReady = some c → sl.judge.fastReady = some c) ∧
    (∀ c, sl.fullReady = some c → sl.judge.fullReady = some c) ∧
    (sl.fullReady ≠ some .gating → sl.judge.fullReady ≠ some .gating) := by
  refine ⟨fun c hc => by simp [Slot.judge, hc], fun c hc => by simp [Slot.judge, hc], fun no => ?_⟩
  dsimp only [Slot.judge]
  split
  · exact no
  · split <;> simp

/-- Judging keeps the laws of a slot (R76, R77). -/
theorem SlotInv.judge {sl : Slot} (h : SlotInv sl) : SlotInv sl.judge := by
  obtain ⟨follows, fast, full, noGating, gating, expected, late⟩ := h
  obtain ⟨keepFast, keepFull, keepGating⟩ := sl.judge_ready
  exact ⟨follows, fun c hc => keepFast _ (fast c hc), fun c hc => keepFull _ (full c hc), keepGating noGating, gating,
    expected, late⟩

/-- Entries whose LATE and AFTER_FAST_CUT stand behind a fast cut alone keep the laws of a slot (R62). -/
theorem SlotInv.entries {sl : Slot} (h : SlotInv sl) {entries : Vector (Option Entry) 48}
    (late : ∀ i : StreamId, ∀ e, entries[i] = some e → (e.late = true ∨ e.mark = .afterFastCut) →
      sl.fastCut.isSome = true) : SlotInv { sl with entries := entries } := by
  obtain ⟨follows, fast, full, noGating, gating, expected, -⟩ := h
  exact ⟨follows, fast, full, noGating, gating, expected, late⟩

/-- The entry law of a slot, by itself (R62). -/
theorem SlotInv.late {sl : Slot} (h : SlotInv sl) {i : StreamId} {e : Entry} (he : sl.entries[i] = some e)
    (flagged : e.late = true ∨ e.mark = .afterFastCut) : sl.fastCut.isSome = true := by
  obtain ⟨-, -, -, -, -, -, late⟩ := h
  exact late i e he flagged

/-- A slot that is not OPEN holds its fast cut (R60). -/
theorem Slot.cut_of_not_opened {sl : Slot} (h : sl.state ≠ .opened) : sl.fastCut.isSome = true := by
  by_contra none
  exact h ((Slot.state_opened sl).mpr (by simpa using none))

/-- A record stored in a slot keeps its laws: it is LATE only behind a fast cut (R72). -/
theorem SlotInv.store {sl : Slot} (h : SlotInv sl) (r : PlacedRecord) : SlotInv (sl.store r) := by
  refine SlotInv.judge (SlotInv.entries h fun i e he flagged => ?_)
  rw [Fin.getElem_fin, update_get] at he
  split at he
  · obtain rfl := Option.some.inj he
    rcases flagged with isLate | marked
    · have cut : sl.state = .fastCut := by simpa [PlacedRecord.entry] using isLate
      exact Slot.cut_of_not_opened (by simp [cut])
    · simp [PlacedRecord.entry] at marked
  · exact h.late he flagged

/-- A conflict marked in a slot keeps its laws: AFTER_FAST_CUT is given behind a fast cut alone (R74). -/
theorem SlotInv.markConflict {sl : Slot} (h : SlotInv sl) (i : StreamId) : SlotInv (sl.markConflict i) := by
  unfold Slot.markConflict
  refine SlotInv.entries h fun j e he flagged => ?_
  rw [Fin.getElem_fin, update_get] at he
  split at he
  · obtain ⟨o, ho, rfl⟩ := Option.map_eq_some_iff.mp he
    split at flagged
    · by_cases opened : sl.state = .opened
      · exact h.late ho (.inl (by simpa [opened] using flagged))
      · exact Slot.cut_of_not_opened opened
    · exact h.late ho flagged
  · exact h.late he flagged

/-! ### The release pass -/

/-- After the first part of a release pass the slots with a fast cut still stand before those without (R80). -/
theorem fastPass_fastFirst (l : List Slot) (h : l.Pairwise fun a b => b.fastCut.isSome = true → a.fastCut.isSome = true) :
    ∀ n, (fastPass l n).1.Pairwise fun a b => b.fastCut.isSome = true → a.fastCut.isSome = true := by
  induction l with
  | nil => exact fun _ => .nil
  | cons sl l ih =>
    intro n
    have tail := (List.pairwise_cons.mp h).2
    unfold fastPass
    split
    next c hc => exact List.pairwise_cons.mpr ⟨fun _ _ _ => by simp [hc], ih tail n⟩
    next => exact h
    next => exact List.pairwise_cons.mpr ⟨fun _ _ _ => rfl, ih tail (n + 1)⟩

/-- After the second part of a release pass the slots with a full cut still stand before those without (R80). -/
theorem fullPass_fullFirst (l : List Slot) (h : l.Pairwise fun a b => b.fullCut.isSome = true → a.fullCut.isSome = true) :
    ∀ n, (fullPass l n).1.Pairwise fun a b => b.fullCut.isSome = true → a.fullCut.isSome = true := by
  induction l with
  | nil => exact fun _ => .nil
  | cons sl l ih =>
    intro n
    have tail := (List.pairwise_cons.mp h).2
    unfold fullPass
    split
    next c _ _ hc => exact List.pairwise_cons.mpr ⟨fun _ _ _ => by simp [hc], ih tail n⟩
    next => exact List.pairwise_cons.mpr ⟨fun _ _ _ => rfl, ih tail (n + 1)⟩
    next => exact h

/-- A relation between keys of slots carries over to slots with the same keys. -/
theorem pairwise_of_map_eq {β : Type} {f : Slot → β} {R : β → β → Prop} {l m : List Slot} (e : m.map f = l.map f)
    (h : l.Pairwise fun a b => R (f a) (f b)) : m.Pairwise fun a b => R (f a) (f b) := by
  rw [← List.pairwise_map (f := f)] at h ⊢
  rwa [e]

/-- What holds of the keys of slots carries over to slots with the same keys. -/
theorem forall_of_map_eq {β : Type} {f : Slot → β} {P : β → Prop} {l m : List Slot} (e : m.map f = l.map f)
    (h : ∀ sl ∈ l, P (f sl)) : ∀ sl ∈ m, P (f sl) := by
  intro sl hm
  have mem : f sl ∈ l.map f := e ▸ List.mem_map_of_mem hm
  obtain ⟨o, ho, eq⟩ := List.mem_map.mp mem
  exact eq ▸ h o ho

/-- A release pass keeps the table's laws (R80 to R83). -/
theorem AlignTable.Laws.release {t : AlignTable} (h : t.Laws) : t.release.Laws := by
  have keys : t.release.slots.map Slot.key = t.slots.map Slot.key :=
    t.release_map Slot.key (fun _ _ => rfl) fun _ _ => rfl
  have numbers : t.release.slots.map Slot.number = t.slots.map Slot.number :=
    t.release_map Slot.number (fun _ _ => rfl) fun _ _ => rfl
  have fastSame : t.release.slots.map Slot.fastCut = (fastPass t.slots t.nextFast).1.map Slot.fastCut :=
    fullPass_map Slot.fastCut (fun _ _ => rfl) _ _
  have fullSame : (fastPass t.slots t.nextFast).1.map Slot.fullCut = t.slots.map Slot.fullCut :=
    fastPass_map Slot.fullCut (fun _ _ => rfl) _ _
  have fullFirst : (fastPass t.slots t.nextFast).1.Pairwise fun a b => b.fullCut.isSome = true → a.fullCut.isSome = true :=
    pairwise_of_map_eq (f := Slot.fullCut) (R := fun a b => b.isSome = true → a.isSome = true) fullSame h.fullFirst
  have seqs : ∀ (f : Slot → Option Cut) (l m : List Slot), m.map f = l.map f →
      m.filterMap (fun sl => (f sl).map Cut.seq) = l.filterMap fun sl => (f sl).map Cut.seq := by
    intro f l m e
    have through : ∀ k : List Slot, k.filterMap (fun sl => (f sl).map Cut.seq) = (k.map f).filterMap (Option.map Cut.seq) :=
      fun k => by rw [List.filterMap_map]; rfl
    rw [through, through, e]
  refine ⟨?_, ?_, ?_, ?_, ?_, ?_, ?_, ?_⟩
  · have passed : ∀ sl ∈ (fastPass t.slots t.nextFast).1, SlotInv sl := by
      intro sl hm
      rcases fastPass_mem _ _ sl hm with old | ⟨o, ho, c, m, -, ready, -, rfl⟩
      · exact h.slot sl old
      · exact (h.slot o ho).cutFast ready m
    intro sl hm
    rcases fullPass_mem _ _ sl hm with old | ⟨o, ho, c, m, -, cut, ready, -, rfl⟩
    · exact passed sl old
    · exact (passed o ho).cutFull cut ready m
  · exact pairwise_of_map_eq (f := Slot.key) (R := EpochKey.older) keys h.order
  · exact forall_of_map_eq (f := Slot.key)
      (P := fun k => ∃ hor, t.horizon = some hor ∧ ¬ EpochKey.older hor k) keys h.horizon
  · rw [numbers]
    exact h.numbers
  · exact pairwise_of_map_eq (f := Slot.fastCut) (R := fun a b => b.isSome = true → a.isSome = true) fastSame
      (fastPass_fastFirst _ h.fastFirst _)
  · exact fullPass_fullFirst _ fullFirst _
  · obtain ⟨k, next, run⟩ := fastPass_numbers t.slots h.fastFirst t.nextFast
    rw [seqs Slot.fastCut _ _ fastSame, run]
    change RunUpTo (fastPass t.slots t.nextFast).2.1 _
    rw [next]
    exact h.fastRun.append
  · obtain ⟨k, next, run⟩ := fullPass_numbers _ fullFirst t.nextFull
    change RunUpTo (fullPass _ _).2 ((fullPass _ _).1.filterMap _)
    rw [next, run, seqs Slot.fullCut _ _ fullSame]
    exact h.fullRun.append

/-! ### Openings -/

/-- The first CLOSED slot is the oldest slot (R60, R80). -/
theorem AlignTable.Laws.takeClosed_head {t : AlignTable} (h : t.Laws) {r : Slot × List Slot}
    (hr : takeClosed t.slots = some r) : t.slots = r.1 :: r.2 ∧ r.1.state = .closed := by
  obtain ⟨closed, before, whole, rest, notClosed⟩ := takeClosed_some _ r hr
  cases before with
  | nil => exact ⟨by simpa using whole, closed⟩
  | cons o before =>
    have inSlots : o ∈ t.slots := by rw [whole]; simp
    have full : o.fullCut.isSome = true := by
      have first := h.fullFirst
      rw [whole, List.cons_append, List.pairwise_cons] at first
      exact first.1 r.1 (by simp) ((Slot.state_closed _).mp closed).2
    exact absurd ((Slot.state_closed o).mpr ⟨(h.slot o inSlots).1 full, full⟩) (notClosed o (by simp))

/-- A table without its oldest slot, which is CLOSED, keeps the laws (R66, R83). -/
theorem AlignTable.Laws.dropOldest {t : AlignTable} (h : t.Laws) {old : Slot} {rest : List Slot}
    (slots : t.slots = old :: rest) (closed : old.state = .closed) : ({ t with slots := rest } : AlignTable).Laws := by
  obtain ⟨slot, order, horizon, numbers, fastFirst, fullFirst, fastRun, fullRun⟩ := h
  obtain ⟨fast, full⟩ := (Slot.state_closed old).mp closed
  obtain ⟨c, hc⟩ := Option.isSome_iff_exists.mp fast
  obtain ⟨d, hd⟩ := Option.isSome_iff_exists.mp full
  rw [slots] at slot order horizon numbers fastFirst fullFirst fastRun fullRun
  simp only [List.filterMap_cons, hc, hd, Option.map_some] at fastRun fullRun
  exact ⟨fun sl hm => slot sl (List.mem_cons_of_mem _ hm), (List.pairwise_cons.mp order).2,
    fun sl hm => horizon sl (List.mem_cons_of_mem _ hm), (List.nodup_cons.mp numbers).2,
    (List.pairwise_cons.mp fastFirst).2, (List.pairwise_cons.mp fullFirst).2, fastRun.tail, fullRun.tail⟩

/-- The slot number an opening takes is no slot's after the recycling, which keeps the laws and the newest slots' order
(R66). -/
theorem State.claimSlot_laws {s : State} (h : s.table.Laws) {c : Fin 512 × State} (hc : s.claimSlot = some c) :
    c.2.table.Laws ∧ c.2.table.horizon = s.table.horizon ∧ c.1 ∉ c.2.table.slots.map Slot.number ∧
      c.2.table.nextFast = s.table.nextFast ∧ c.2.table.nextFull = s.table.nextFull := by
  unfold State.claimSlot at hc
  split at hc
  next n hn =>
    cases hc
    exact ⟨h, rfl, by simpa using freeNumber_some hn, rfl, rfl⟩
  next =>
    split at hc
    next r hr =>
      cases hc
      obtain ⟨slots, closed⟩ := h.takeClosed_head hr
      have numbers := h.numbers
      rw [slots, List.map_cons, List.nodup_cons] at numbers
      exact ⟨h.dropOldest slots closed, rfl, numbers.1, rfl, rfl⟩
    next => cases hc

/-- A slot that has just opened keeps the laws of a slot (R61, R68, R69). -/
theorem State.newSlot_inv (s : State) (n : Fin 512) (e : EpochKey) (b : BankId) (g : Generation) :
    SlotInv (s.newSlot n e b g) := by
  refine ⟨by simp [State.newSlot], by simp [State.newSlot], by simp [State.newSlot], by simp [State.newSlot], ?_, ?_, ?_⟩
  · intro i hi
    exact (List.mem_filter.mp hi).1
  · intro i hi
    simp only [State.newSlot, State.expectedSet, List.mem_filter, Bool.and_eq_true] at hi ⊢
    exact ⟨hi.1, hi.2.1.1⟩
  · intro i e' he
    simp [State.newSlot] at he

/-- A slot that has just opened, put behind slots of older epochs under a number of its own, keeps the table's laws, with
H at its epoch (R63, R66). -/
theorem AlignTable.Laws.append {t : AlignTable} (h : t.Laws) {sl : Slot} (inv : SlotInv sl) (fast : sl.fastCut = none)
    (full : sl.fullCut = none) (newer : ∀ o ∈ t.slots, EpochKey.older o.key sl.key)
    (number : sl.number ∉ t.slots.map Slot.number) (mark : Bool) (last : Option Generation) :
    ({ t with slots := t.slots ++ [sl], horizon := some sl.key, mark := mark, lastGeneration := last } :
      AlignTable).Laws := by
  refine ⟨?_, ?_, ?_, ?_, ?_, ?_, ?_, ?_⟩
  · intro o ho
    rcases List.mem_append.mp ho with old | new
    · exact h.slot o old
    · rw [List.mem_singleton.mp new]
      exact inv
  · exact List.pairwise_append.mpr ⟨h.order, List.pairwise_singleton _ _, by simpa using newer⟩
  · intro o ho
    refine ⟨sl.key, rfl, ?_⟩
    rcases List.mem_append.mp ho with old | new
    · have := newer o old
      omega
    · rw [List.mem_singleton.mp new]
      omega
  · rw [List.map_append, List.nodup_append]
    refine ⟨h.numbers, by simp, ?_⟩
    rintro a ha b hb rfl
    rw [List.map_singleton, List.mem_singleton] at hb
    exact number (hb ▸ ha)
  · exact List.pairwise_append.mpr ⟨h.fastFirst, List.pairwise_singleton _ _, by simp [fast]⟩
  · exact List.pairwise_append.mpr ⟨h.fullFirst, List.pairwise_singleton _ _, by simp [full]⟩
  · simpa [fast] using h.fastRun
  · simpa [full] using h.fullRun

/-- Every slot is older than an epoch that H lets be opened (R63). -/
theorem AlignTable.Laws.older_of_opens {t : AlignTable} (h : t.Laws) {e : EpochKey} (may : opens t.horizon e = true) :
    ∀ o ∈ t.slots, EpochKey.older o.key e := by
  intro o ho
  obtain ⟨hor, eq, notOlder⟩ := h.horizon o ho
  rw [eq] at may
  have newer : EpochKey.older hor e := by simpa [opens] using may
  omega

/-- H moved forward to an epoch that it lets be opened keeps the laws (R63, R66). -/
theorem AlignTable.Laws.advanceHorizon {t : AlignTable} (h : t.Laws) {e : EpochKey} (may : opens t.horizon e = true) :
    ({ t with horizon := some e } : AlignTable).Laws := by
  have older := h.older_of_opens may
  obtain ⟨slot, order, hor, numbers, fastFirst, fullFirst, fastRun, fullRun⟩ := h
  refine ⟨slot, order, fun o ho => ⟨e, rfl, ?_⟩, numbers, fastFirst, fullFirst, fastRun, fullRun⟩
  have := older o ho
  omega

/-- An opening that H allows keeps the laws, sets H and touches no number (R63, R66). -/
theorem State.openSlot_laws {s : State} (h : s.table.Laws) {e : EpochKey} (may : opens s.table.horizon e = true) :
    (s.openSlot e).1.table.Laws ∧ (s.openSlot e).1.table.horizon = some e ∧
      (s.openSlot e).1.table.nextFast = s.table.nextFast ∧ (s.openSlot e).1.table.nextFull = s.table.nextFull := by
  unfold State.openSlot
  split
  next g c hg hc =>
    obtain ⟨laws, horizon, number, nextFast, nextFull⟩ := State.claimSlot_laws h hc
    have newer := laws.older_of_opens (e := e) (horizon.symm ▸ may)
    refine ⟨?_, rfl, nextFast, nextFull⟩
    exact laws.append (s.newSlot_inv c.1 e g.1 g.2) rfl rfl newer number false (some g.2)
  next => exact ⟨h.advanceHorizon may, rfl, rfl, rfl⟩

end Sys2Proof.Machine
end

section
/-! PROOFS. The alignment table's invariant and that of the read cursors, over every operation, every command and the idle
step (R20, R60 to R85, R159). -/

namespace Sys2Proof.Machine

/-- The two invariants of the table and of the cursors that read it. -/
def AlignInv (s : State) : Prop := TableInv s ∧ CursorInv s

theorem AlignInv.laws {s : State} (h : AlignInv s) : s.table.Laws := ((tableInv_iff s).mp h.1).1

theorem AlignInv.empty {s : State} (h : AlignInv s) : s.EmptyOutsideAligning := ((tableInv_iff s).mp h.1).2

/-- A state whose table keeps the laws, whose next numbers have not gone back and whose cursors have not moved. -/
theorem AlignInv.of_table {s t : State} (h : AlignInv s) (laws : t.table.Laws)
    (fast : s.table.nextFast ≤ t.table.nextFast) (full : s.table.nextFull ≤ t.table.nextFull)
    (empty : t.EmptyOutsideAligning)
    (cursors : ∀ p : PortId, t.ports[p].fastCursor = s.ports[p].fastCursor ∧
      t.ports[p].fullCursor = s.ports[p].fullCursor) : AlignInv t := by
  refine ⟨(tableInv_iff t).mpr ⟨laws, empty⟩, fun p => ?_⟩
  rw [(cursors p).1, (cursors p).2]
  exact ⟨(h.2 p).1.trans fast, (h.2 p).2.trans full⟩

/-- What keeps the frame keeps the invariants. -/
theorem Keeps.alignInv {s t : State} (k : Keeps s t) (h : AlignInv s) : AlignInv t := by
  refine h.of_table (k.table ▸ h.laws) (by rw [k.table]) (by rw [k.table]) ?_ k.cursors
  intro outside
  rw [k.table]
  exact h.empty (by rwa [k.active, k.timebase] at outside)

/-- What an operation on slots makes of a table: the laws stand, no next number goes back, and no slot comes from none. -/
structure AlignTable.KeepsLaws (t u : AlignTable) : Prop where
  laws : t.Laws → u.Laws
  fast : t.nextFast ≤ u.nextFast
  full : t.nextFull ≤ u.nextFull
  slots : t.slots = [] → u.slots = []

theorem AlignTable.KeepsLaws.refl (t : AlignTable) : t.KeepsLaws t := ⟨id, Nat.le_refl _, Nat.le_refl _, id⟩

theorem AlignTable.KeepsLaws.trans {t u v : AlignTable} (h : t.KeepsLaws u) (h' : u.KeepsLaws v) : t.KeepsLaws v :=
  ⟨h'.laws ∘ h.laws, h.fast.trans h'.fast, h.full.trans h'.full, h'.slots ∘ h.slots⟩

/-- A state that differs in its table alone, the timebase, the store and the ports standing as they stood. -/
theorem AlignInv.of_slots {s t : State} (h : AlignInv s) (k : s.table.KeepsLaws t.table)
    (timebase : t.timebase = s.timebase) (store : t.store = s.store) (ports : t.ports = s.ports) : AlignInv t := by
  refine h.of_table (k.laws h.laws) k.fast k.full ?_ (fun p => by rw [ports]; exact ⟨rfl, rfl⟩)
  intro outside
  rw [store, timebase] at outside
  exact k.slots (h.empty outside)

/-! ### Storing, deadlines, release -/

theorem Slot.store_sameCuts (r : PlacedRecord) (sl : Slot) : sl.SameCuts (sl.store r) := by
  simp [Slot.SameCuts, Slot.store, Slot.judge]

theorem Slot.markConflict_sameCuts (i : StreamId) (sl : Slot) : sl.SameCuts (sl.markConflict i) := by
  simp [Slot.SameCuts, Slot.markConflict]

/-- The slot of an epoch changed (R72, R74, R78). -/
theorem AlignTable.modify_keepsLaws (t : AlignTable) (e : EpochKey) {f : Slot → Slot}
    (same : ∀ sl : Slot, sl.SameCuts (f sl)) (slot : t.Laws → ∀ sl ∈ t.slots, sl.key = e → SlotInv (f sl)) :
    t.KeepsLaws (t.modify e f) :=
  ⟨fun h => h.modify e same (slot h), Nat.le_refl _, Nat.le_refl _, fun none => by simp [AlignTable.modify, none]⟩

/-- The release pass (R80). -/
theorem AlignTable.release_keepsLaws (t : AlignTable) : t.KeepsLaws t.release := by
  refine ⟨AlignTable.Laws.release, t.release_next.1, t.release_next.2, fun none => ?_⟩
  have keys := t.release_map Slot.key (fun _ _ => rfl) fun _ _ => rfl
  rw [none] at keys
  simpa using keys

/-- A slot of an epoch changed, and the release pass behind it. -/
theorem State.modify_releasePass_keepsLaws (s : State) (e : EpochKey) {f : Slot → Slot}
    (same : ∀ sl : Slot, sl.SameCuts (f sl)) (slot : s.table.Laws → ∀ sl ∈ s.table.slots, sl.key = e → SlotInv (f sl)) :
    s.table.KeepsLaws ({ s with table := s.table.modify e f } : State).releasePass.table := by
  rw [State.releasePass_table]
  exact (s.table.modify_keepsLaws e same slot).trans (s.table.modify e f).release_keepsLaws

theorem State.fastDeadline_keepsLaws (s : State) (e : EpochKey) : s.table.KeepsLaws (s.fastDeadline e).table := by
  unfold State.fastDeadline
  split
  next sl found =>
    split
    next due =>
      obtain ⟨mem, key⟩ := AlignTable.find_some found
      have opened : sl.state = .opened := by simp only [Bool.and_eq_true, beq_iff_eq] at due; exact due.1.2
      refine s.modify_releasePass_keepsLaws e (f := fun sl => { sl with fastReady := some .deadline })
        (fun _ => ⟨rfl, rfl, rfl, rfl⟩) fun laws o ho hk => ?_
      obtain rfl := key_unique laws.order ho mem (hk.trans key.symm)
      exact (laws.slot o ho).fastDeadline ((Slot.state_opened o).mp opened)
    next => exact .refl _
  next => exact .refl _

theorem State.fullDeadline_keepsLaws (s : State) (e : EpochKey) : s.table.KeepsLaws (s.fullDeadline e).table := by
  unfold State.fullDeadline
  split
  next sl found =>
    split
    next due =>
      obtain ⟨mem, key⟩ := AlignTable.find_some found
      have unready : sl.fullReady = none := by simp only [Bool.and_eq_true, Option.isNone_iff_eq_none] at due; exact due.2
      refine s.modify_releasePass_keepsLaws e (f := fun sl => { sl with fullReady := some .deadline })
        (fun _ => ⟨rfl, rfl, rfl, rfl⟩) fun laws o ho hk => ?_
      obtain rfl := key_unique laws.order ho mem (hk.trans key.symm)
      exact (laws.slot o ho).fullDeadline unready
    next => exact .refl _
  next => exact .refl _

theorem State.expireDeadlines_keepsLaws (s : State) (es : List EpochKey) :
    s.table.KeepsLaws (s.expireDeadlines es).table := by
  unfold State.expireDeadlines
  induction es generalizing s with
  | nil => exact .refl _
  | cons e es ih =>
    exact ((s.fastDeadline_keepsLaws e).trans ((s.fastDeadline e).fullDeadline_keepsLaws e)).trans (ih _)

theorem State.storeRecord_keepsLaws (s : State) (r : PlacedRecord) : s.table.KeepsLaws (s.storeRecord r).table :=
  s.modify_releasePass_keepsLaws r.key (Slot.store_sameCuts r) fun laws sl hm _ => (laws.slot sl hm).store r

theorem AlignInv.fastDeadline {s : State} (h : AlignInv s) (e : EpochKey) : AlignInv (s.fastDeadline e) :=
  h.of_slots (s.fastDeadline_keepsLaws e) (by simp) (by simp) (by simp)

theorem AlignInv.fullDeadline {s : State} (h : AlignInv s) (e : EpochKey) : AlignInv (s.fullDeadline e) :=
  h.of_slots (s.fullDeadline_keepsLaws e) (by simp) (by simp) (by simp)

theorem AlignInv.expireDeadlines {s : State} (h : AlignInv s) (es : List EpochKey) : AlignInv (s.expireDeadlines es) :=
  h.of_slots (s.expireDeadlines_keepsLaws es) (by simp) (by simp) (by simp)

theorem AlignInv.expireAll {s : State} (h : AlignInv s) : AlignInv s.expireAll := h.expireDeadlines _

theorem AlignInv.storeRecord {s : State} (h : AlignInv s) (r : PlacedRecord) : AlignInv (s.storeRecord r) :=
  h.of_slots (s.storeRecord_keepsLaws r) (by simp) (by simp) (by simp)

/-! ### Opening -/

/-- The device is ALIGNING: a bank is active and local time is set (R19). -/
def State.Aligning (s : State) : Prop := s.store.active ≠ none ∧ s.timebase.localTime ≠ none

theorem State.Aligning.empty {s : State} (h : s.Aligning) : s.EmptyOutsideAligning :=
  fun outside => absurd outside (not_or.mpr ⟨h.1, h.2⟩)

/-- The current epoch lies in the second of local time, at the rate of the governing bank (R18). -/
theorem State.currentEpoch_some {s : State} {c : EpochKey} (h : s.currentEpoch = some c) :
    ∃ t b g, s.timebase.localTime = some t ∧ s.store.governing t.second = some (b, g) ∧
      c = epochAt (s.store.bank b).rate t := by
  unfold State.currentEpoch at h
  split at h
  next => cases h
  next t ht =>
    obtain ⟨bank, hb, rfl⟩ := Option.map_eq_some_iff.mp h
    obtain ⟨g, hg, rfl⟩ := Option.map_eq_some_iff.mp hb
    exact ⟨t, g.1, g.2, ht, hg, rfl⟩

/-- A current epoch is there in ALIGNING alone (R18). -/
theorem State.aligning_of_currentEpoch {s : State} {c : EpochKey} (h : s.currentEpoch = some c) : s.Aligning := by
  obtain ⟨t, b, g, ht, hg, -⟩ := State.currentEpoch_some h
  have active := s.store.governing_isSome t.second
  rw [hg] at active
  exact ⟨fun none => by simp [none] at active, by simp [ht]⟩

/-- CURSOR_OVERRUN moves no cursor (R66). -/
theorem Keeps.tellOverrun (s : State) (sl : Slot) : Keeps s (s.tellOverrun sl) := by
  unfold State.tellOverrun
  refine Keeps.updPorts s fun _ q => ?_
  split <;> exact ⟨rfl, rfl⟩

/-- An opening moves no cursor (R66). -/
theorem State.openSlot_cursors (s : State) (e : EpochKey) (p : PortId) :
    (s.openSlot e).1.ports[p].fastCursor = s.ports[p].fastCursor ∧
      (s.openSlot e).1.ports[p].fullCursor = s.ports[p].fullCursor := by
  have claimed : ∀ c, s.claimSlot = some c → c.2.ports[p].fastCursor = s.ports[p].fastCursor ∧
      c.2.ports[p].fullCursor = s.ports[p].fullCursor := by
    intro c hc
    unfold State.claimSlot at hc
    split at hc
    · cases hc
      exact ⟨rfl, rfl⟩
    · split at hc
      · cases hc
        exact (Keeps.tellOverrun s _).cursors p
      · cases hc
  unfold State.openSlot
  split
  next g c hg hc => exact claimed c hc
  next => exact ⟨rfl, rfl⟩

theorem AlignInv.openSlot {s : State} (h : AlignInv s) (aligning : s.Aligning) {e : EpochKey}
    (may : opens s.table.horizon e = true) : AlignInv (s.openSlot e).1 := by
  obtain ⟨laws, -, nextFast, nextFull⟩ := State.openSlot_laws h.laws may
  refine h.of_table laws nextFast.ge nextFull.ge ?_ (s.openSlot_cursors e)
  exact State.Aligning.empty (by simpa [State.Aligning] using aligning)

/-- The boundary of an epoch keeps the laws (R64). -/
theorem State.epochBoundary_laws {s : State} (h : s.table.Laws) : s.epochBoundary.table.Laws := by
  unfold State.epochBoundary
  split
  next c hc =>
    split
    next may => exact (State.expireDeadlines_keepsLaws _ _).laws (State.openSlot_laws h may).1
    next => exact h
  next => exact h

theorem AlignInv.epochBoundary {s : State} (h : AlignInv s) : AlignInv s.epochBoundary := by
  unfold State.epochBoundary
  split
  next c hc =>
    split
    next may => exact (h.openSlot (State.aligning_of_currentEpoch hc) may).expireDeadlines _
    next => exact h
  next => exact h

/-- The epoch after an epoch is newer (R53). -/
theorem State.epochAfter_newer {s : State} {c e : EpochKey} (h : s.epochAfter c = some e) : EpochKey.older c e := by
  unfold State.epochAfter at h
  split at h
  · cases h
  · split at h
    · cases h
      exact .inr ⟨rfl, Nat.lt_succ_self _⟩
    · split at h
      · cases h
        exact .inl (Nat.lt_succ_self _)
      · cases h

theorem AlignInv.takeNew {s : State} (h : AlignInv s) (r : PlacedRecord) : AlignInv (s.takeNew r).1 := by
  have either : ∀ (b : Bool) (x y : State × TakeOutcome), AlignInv x.1 → AlignInv y.1 →
      AlignInv (if b = true then x else y).1 := by
    intro b x y hx hy
    cases b
    · exact hy
    · exact hx
  unfold State.takeNew
  split
  next => exact h
  next c hc =>
    have aligning := State.aligning_of_currentEpoch hc
    split
    · exact h
    split
    · exact h
    split
    next => exact h
    next may =>
      have may : opens s.table.horizon r.key = true := by simpa using may
      split
      next current =>
        have opened := h.openSlot aligning (current ▸ may)
        exact either _ _ _ ((opened.storeRecord r).expireDeadlines _) opened
      next =>
        split
        next next_ =>
          have opened : AlignInv ((if opens s.table.horizon c && (s.table.find c).isNone then s.openSlot c
              else (s, false)).1.openSlot r.key).1 := by
            split
            next first =>
              have first : opens s.table.horizon c = true := by simp only [Bool.and_eq_true] at first; exact first.1
              obtain ⟨-, horizon, -, -⟩ := State.openSlot_laws h.laws first
              refine (h.openSlot aligning first).openSlot (by simpa [State.Aligning] using aligning) ?_
              simpa [horizon, opens] using State.epochAfter_newer next_
            next => exact h.openSlot aligning may
          exact either _ _ _ ((opened.storeRecord r).expireDeadlines _) (opened.expireDeadlines _)
        next => exact h

theorem AlignInv.takeRecord {s : State} (h : AlignInv s) (r : PlacedRecord) : AlignInv (s.takeRecord r).1 := by
  unfold State.takeRecord
  split
  next => exact h.takeNew r
  next =>
    split
    · exact h
    split
    · exact h
    split
    next =>
      split
      · exact h
      · have marked : AlignInv { s with table := s.table.modify r.key (Slot.markConflict r.stream) } :=
          h.of_slots (s.table.modify_keepsLaws r.key (Slot.markConflict_sameCuts r.stream)
            fun laws sl hm _ => (laws.slot sl hm).markConflict r.stream) rfl rfl rfl
        have latched := (Keeps.latchAll _ .conflict).alignInv marked
        dsimp only
        split
        · exact (Keeps.faultReport _ _ _).alignInv latched
        · exact latched
    next => exact h.storeRecord r

theorem AlignInv.tableTake {s : State} (h : AlignInv s) : AlignInv s.tableTake := by
  have handled : ∀ u : State, AlignInv u → AlignInv { u with arbiter := { u.arbiter with handling := none } } :=
    fun u hu => Keeps.alignInv (.of_ports_eq rfl rfl rfl rfl) hu
  unfold State.tableTake
  split
  next => exact h
  next r hr =>
    have taken := h.takeRecord r
    dsimp only
    split
    · exact handled _ ((Keeps.updStream _ _ _).alignInv taken)
    · exact handled _ taken

/-! ### The timebase's commands -/

@[simp] theorem State.activate_ports (s : State) (x : Option Nat) (d : Option Draining) :
    (s.activate x d).ports = updateAll s.ports fun _ => Port.latch .profileSwitched := by
  simp [State.activate]

@[simp] theorem State.activate_store (s : State) (x : Option Nat) (d : Option Draining) :
    (s.activate x d).store = { s.store with
      active := some s.store.standby
      standby := otherBank s.store.standby
      generation := s.store.generation + 1
      lastSwitch := x
      pendingSwitch := none
      draining := d } := by
  simp [State.activate]

/-- A second-boundary event leaves no port without its cursors, and makes no active bank absent (R131). -/
theorem AlignInv.takeSecond {s : State} (h : AlignInv s) (x : Nat) : AlignInv (s.takeSecond x) := by
  have active : (s.takeSecond x).store.active = none → s.store.active = none := by
    simp only [State.takeSecond, State.storeSecond]
    split
    · split
      · simp
      · simp
    · simp
  have ports : (s.takeSecond x).ports = s.ports ∨
      (s.takeSecond x).ports = updateAll s.ports fun _ => Port.latch .profileSwitched := by
    simp only [State.takeSecond, State.storeSecond]
    split
    · split
      · simp
      · simp
    · simp
  refine h.of_table (by simpa using h.laws) (by simp) (by simp) ?_ fun p => ?_
  · intro outside
    rw [State.takeSecond_table]
    exact h.empty (outside.imp active (by simp))
  · rcases ports with e | e
    · rw [e]
      exact ⟨rfl, rfl⟩
    · simp [e, Port.latch]

theorem AlignInv.takeDueSecond {s : State} (h : AlignInv s) : AlignInv s.takeDueSecond := by
  unfold State.takeDueSecond
  split
  · exact h.takeSecond _
  · exact h

/-- A timebase in which local time is no more absent than it was. -/
theorem AlignInv.of_timebase {s : State} (h : AlignInv s) {tb : Timebase}
    (set : tb.localTime = none → s.timebase.localTime = none) : AlignInv { s with timebase := tb } :=
  h.of_table h.laws (Nat.le_refl _) (Nat.le_refl _) (fun outside => h.empty (outside.imp id set)) fun _ => ⟨rfl, rfl⟩

theorem AlignInv.latchAll {s : State} (h : AlignInv s) (k : Kind) : AlignInv (s.latchAll k) :=
  (Keeps.latchAll s k).alignInv h

theorem AlignInv.handMark {s : State} (h : AlignInv s) : AlignInv s.handMark :=
  h.of_slots ⟨fun laws => laws.of_same rfl (.inl rfl) rfl rfl, Nat.le_refl _, Nat.le_refl _, id⟩ rfl rfl rfl

theorem AlignInv.raiseDiscontinuity {s : State} (h : AlignInv s) : AlignInv s.raiseDiscontinuity :=
  (h.latchAll .discontinuity).handMark

theorem AlignInv.setLocal {s : State} (h : AlignInv s) (x : Nat) : AlignInv (s.setLocal x) :=
  h.of_timebase fun none => by simp at none

theorem AlignInv.setCorrection {s : State} (h : AlignInv s) (c : Correction) : AlignInv (s.setCorrection c) :=
  h.of_timebase id

theorem AlignInv.enterTimeState {s : State} (h : AlignInv s) (st : TimeState) : AlignInv (s.enterTimeState st) := by
  have entered : AlignInv { s with timebase := { s.timebase with state := st } } := h.of_timebase id
  unfold State.enterTimeState
  dsimp only
  split
  · exact entered
  · exact entered.latchAll _

theorem AlignInv.lock {s : State} (h : AlignInv s) : AlignInv s.lock := (h.enterTimeState .locked).of_timebase id

theorem AlignInv.reject {s : State} (h : AlignInv s) (e : Int) : AlignInv (s.reject e) :=
  (h.enterTimeState .rejected).of_timebase id

theorem AlignInv.settleAcceptance {s : State} (h : AlignInv s) (e : Int) : AlignInv (s.settleAcceptance e) :=
  h.of_timebase id

theorem AlignInv.stepTo {s : State} (h : AlignInv s) (x : Nat) : AlignInv (s.stepTo x) :=
  ((h.takeDueSecond.epochBoundary.setLocal x).raiseDiscontinuity.expireAll.takeSecond x).epochBoundary

theorem AlignInv.correct {s : State} (h : AlignInv s) (x : Nat) (e : Int) (w : Bool) : AlignInv (s.correct x e w) := by
  unfold State.correct
  split
  · exact h
  split
  · exact h.setCorrection _
  split
  · exact h.stepTo x
  · unfold State.beginPause
    dsimp only
    split
    · exact h.setCorrection _
    · exact (h.setCorrection _).raiseDiscontinuity

theorem AlignInv.ppsEdge {s : State} (h : AlignInv s) : AlignInv s.ppsEdge := by
  unfold State.ppsEdge
  split
  next => exact h
  next a _ =>
    have noted : AlignInv (s.notePps a.1) := h.of_timebase id
    dsimp only
    split
    · split
      · have locked := (noted.setLocal a.1).lock
        unfold State.applyUnset
        dsimp only
        split
        · exact (locked.handMark.takeSecond a.1).epochBoundary
        · exact (locked.takeSecond a.1).epochBoundary
      · unfold State.applyPps State.applyError
        split
        · exact (noted.setCorrection _).reject _
        · exact ((noted.setCorrection _).lock.settleAcceptance _).correct _ _ _
    · exact noted

theorem AlignInv.ppsLoss {s : State} (h : AlignInv s) : AlignInv s.ppsLoss := by
  unfold State.ppsLoss
  split
  · exact (h.enterTimeState .holdover).of_timebase id
  · exact h

theorem AlignInv.holdoverEnd {s : State} (h : AlignInv s) : AlignInv s.holdoverEnd := by
  unfold State.holdoverEnd
  split
  · exact (h.enterTimeState .drifting).of_timebase id
  · exact h

theorem AlignInv.slewEnd {s : State} (h : AlignInv s) : AlignInv s.slewEnd := by
  unfold State.slewEnd
  split
  · exact h.setCorrection _
  · exact h

theorem AlignInv.pauseEnd {s : State} (h : AlignInv s) : AlignInv s.pauseEnd := by
  unfold State.pauseEnd
  split
  · exact AlignInv.expireAll ((h.setCorrection _).of_timebase id)
  · exact h

/-- A message received leaves local time as it stands (R6). -/
theorem State.timeLine_localTime (s : State) (line : List LineEvent) :
    (s.timeLine line).timebase.localTime = s.timebase.localTime := by
  unfold State.timeLine
  refine foldl_keeps (fun u => u.timebase.localTime) _ (fun u e => ?_) _ _
  unfold State.timeEvent State.timeArrival
  dsimp only
  split
  · split <;> rfl
  · rfl

theorem AlignInv.timeLine {s : State} (h : AlignInv s) (line : List LineEvent) : AlignInv (s.timeLine line) := by
  refine h.of_table (by simpa using h.laws) (by simp) (by simp) ?_ (fun p => by simp)
  intro outside
  rw [State.timeLine_table]
  exact h.empty (by simpa [State.timeLine_localTime] using outside)

/-! ### The requests that move cursors or the table -/

/-- The number of a slot's cut is one of the retained ones, below the next (R83). -/
theorem AlignTable.Laws.seq_lt {t : AlignTable} (h : t.Laws) {k : SnapKind} {sl : Slot} {n : Nat} (mem : sl ∈ t.slots)
    (seq : sl.seq k = some n) : n < t.next k := by
  cases k with
  | fast => exact h.fastRun.lt (List.mem_filterMap.mpr ⟨sl, mem, seq⟩)
  | full => exact h.fullRun.lt (List.mem_filterMap.mpr ⟨sl, mem, seq⟩)

theorem AlignTable.Laws.oldest_lt {t : AlignTable} (h : t.Laws) {k : SnapKind} {n : Nat} (oldest : t.oldest k = some n) :
    n < t.next k := by
  obtain ⟨sl, mem, seq⟩ := List.mem_filterMap.mp (List.mem_of_head? oldest)
  exact h.seq_lt mem seq

/-- A port given cursors at or below the next numbers. -/
theorem AlignInv.updPort {s : State} (h : AlignInv s) (p : PortId) {f : Port → Port}
    (fast : (f s.ports[p]).fastCursor ≤ s.table.nextFast) (full : (f s.ports[p]).fullCursor ≤ s.table.nextFull) :
    AlignInv (s.updPort p f) := by
  refine ⟨(tableInv_iff _).mpr ⟨h.laws, h.empty⟩, fun q => ?_⟩
  by_cases e : q = p
  · subst e
    simpa using ⟨fast, full⟩
  · simpa [e] using h.2 q

theorem AlignInv.moveCursor {s : State} (h : AlignInv s) (p : PortId) (k : SnapKind) {n : Nat} (le : n ≤ s.table.next k) :
    AlignInv (s.updPort p fun q => q.moveCursor k n) := by
  cases k with
  | fast => exact h.updPort p le (h.2 p).2
  | full => exact h.updPort p (h.2 p).1 le

theorem AlignInv.readNext {s : State} (h : AlignInv s) (p : PortId) (k : SnapKind) : AlignInv (s.readNext p k).1 := by
  unfold State.readNext
  dsimp only
  split
  next => exact h
  next below =>
    split
    next => exact h.moveCursor p k (by omega)
    next =>
      split
      next o oldest =>
        split
        · exact h.moveCursor p k (h.laws.oldest_lt oldest)
        · exact h.moveCursor p k (Nat.le_refl _)
      next => exact h.moveCursor p k (Nat.le_refl _)

theorem AlignInv.readSnapshotNext {s : State} (h : AlignInv s) (p : PortId) (kind : Byte) :
    AlignInv (s.readSnapshotNext p kind).1 := by
  unfold State.readSnapshotNext
  split
  · exact h
  · split
    · exact h.readNext p _
    · exact h

/-- A cursor that a SUBSCRIBE sets or keeps is at or below the next number (R160, R161). -/
theorem AlignTable.Laws.cursorAfter_le {t : AlignTable} (h : t.Laws) (fromOldest newly : Bool) (k : SnapKind)
    {kept : Nat} (le : kept ≤ t.next k) : t.cursorAfter fromOldest newly k kept ≤ t.next k := by
  unfold AlignTable.cursorAfter AlignTable.startCursor
  split
  · split
    · cases oldest : t.oldest k with
      | none => exact Nat.le_refl _
      | some n => exact (h.oldest_lt oldest).le
    · exact Nat.le_refl _
  · exact le

theorem AlignInv.subscribe {s : State} (h : AlignInv s) (p : PortId) (kinds start count : Byte) (indices : List Byte) :
    AlignInv (s.subscribe p kinds start count indices).1 := by
  unfold State.subscribe
  split
  next ks oldest filter _ _ _ =>
    exact h.updPort p (h.laws.cursorAfter_le oldest _ .fast (h.2 p).1) (h.laws.cursorAfter_le oldest _ .full (h.2 p).2)
  next => exact h

theorem AlignInv.commitNow {s : State} (h : AlignInv s) (p : PortId) : AlignInv (s.commitNow p).1 := by
  have refused : ∀ r, AlignInv (s.refuseCommit p r).1 := fun _ => (Keeps.startClaim s p).alignInv h
  unfold State.commitNow
  split
  · exact h
  split
  next => exact refused _
  next inactive =>
    split
    next => exact refused _
    next =>
      have none : s.store.active = none := by simpa using inactive
      have slots : s.table.slots = [] := h.empty (.inl none)
      have activated : AlignInv ((s.setClaim Option.none).activate Option.none Option.none) :=
        h.of_table (by simpa using h.laws) (by simp) (by simp) (fun _ => by simpa using slots)
          (fun p => by simp [Port.latch])
      unfold State.enterAligningNow
      split
      · refine activated.of_slots ⟨fun laws => ?_, Nat.le_refl _, Nat.le_refl _, id⟩ rfl rfl rfl
        exact laws.of_same rfl (.inr (by simpa using slots)) rfl rfl
      · exact activated

theorem AlignInv.clearAlignment {s : State} (h : AlignInv s) : AlignInv s.clearAlignment.1 := by
  refine ⟨(tableInv_iff _).mpr ⟨?_, fun _ => rfl⟩, fun p => ?_⟩
  · exact .of_empty rfl h.laws.fastRun.pos h.laws.fullRun.pos
  · simp [State.clearAlignment, State.tableClear, Port.latch]

theorem AlignInv.portReset {s : State} (h : AlignInv s) (p : PortId) : AlignInv (s.portReset p).1 := by
  have released : AlignInv (if s.holds p then s.setClaim none else s) := by
    split
    · exact (Keeps.setClaim s _).alignInv h
    · exact h
  have table : (if s.holds p then s.setClaim none else s).table = s.table := by split <;> rfl
  refine released.updPort p ?_ ?_
  · rw [table]
    exact Nat.le_refl _
  · rw [table]
    exact Nat.le_refl _

/-! ### Every command -/

/-- A request keeps the invariants as its owner does. -/
theorem AlignInv.serve {p : PortId} {owner : State → State × Reply} (work : ∀ u, AlignInv u → AlignInv (owner u).1)
    {s : State} (h : AlignInv s) (c : Instr) (tag : Byte) :
    AlignInv (s.whileOperating fun u => u.serve c p tag owner) :=
  State.whileOperating_preserves h
    (State.serve_preserves (fun u _ hf hu => (Keeps.updPort u p hf).alignInv hu) work h c tag)

/-- A state after a reset: no slot, the next numbers and every cursor at 1. -/
theorem AlignInv.of_reset {t : State} (table : t.table = AlignTable.reset) (ports : t.ports = State.reset.ports) :
    AlignInv t := by
  refine ⟨(tableInv_iff t).mpr ⟨table ▸ .reset, fun _ => by rw [table]; rfl⟩, fun p => ?_⟩
  rw [table, ports]
  simp [State.reset, Port.reset, AlignTable.reset]

/-- Every command keeps the invariants. -/
theorem exec_alignInv {c : Instr} {s : State} (h : AlignInv s) : ∀ t, exec c s = .next t → AlignInv t := by
  intro t ht
  by_cases quiet : Instr.touchesFrame c = false
  · exact (exec_keeps quiet ht).alignInv h
  cases c with
  | powerOn | supplyBelowLimit | resetLine => exact Host.Outcome.next.inj ht ▸ .of_reset rfl rfl
  | resetLineRelease =>
    obtain rfl := Host.Outcome.next.inj ht
    split
    · exact Keeps.alignInv (s := { s with timebase := { s.timebase with elapsed := 0 } }) (.of_ports_eq rfl rfl rfl rfl)
        (h.of_timebase id)
    · exact h
  | timeMessage line =>
    obtain rfl := Host.Outcome.next.inj ht
    exact State.whileOperating_preserves h (h.timeLine line)
  | ppsEdge =>
    obtain rfl := Host.Outcome.next.inj ht
    exact State.whileOperating_preserves h h.ppsEdge
  | ppsLossTimerExpiry =>
    obtain rfl := Host.Outcome.next.inj ht
    exact State.whileOperating_preserves h h.ppsLoss
  | holdoverLimitExpiry =>
    obtain rfl := Host.Outcome.next.inj ht
    exact State.whileOperating_preserves h h.holdoverEnd
  | slewEnd =>
    obtain rfl := Host.Outcome.next.inj ht
    exact State.whileOperating_preserves h h.slewEnd
  | pauseEnd =>
    obtain rfl := Host.Outcome.next.inj ht
    exact State.whileOperating_preserves h h.pauseEnd
  | secondBoundary =>
    obtain rfl := Host.Outcome.next.inj ht
    exact State.whileOperating_preserves h h.takeDueSecond
  | epochBoundary =>
    obtain rfl := Host.Outcome.next.inj ht
    refine State.whileOperating_preserves h ?_
    split
    · exact h
    · exact h.epochBoundary
  | fastDeadlineExpiry e =>
    obtain rfl := Host.Outcome.next.inj ht
    exact State.whileOperating_preserves h (h.fastDeadline e)
  | fullDeadlineExpiry e =>
    obtain rfl := Host.Outcome.next.inj ht
    exact State.whileOperating_preserves h (h.fullDeadline e)
  | tableTakeRecord =>
    obtain rfl := Host.Outcome.next.inj ht
    exact State.whileOperating_preserves h h.tableTake
  | subscribe p tag kinds start count indices =>
    obtain rfl := Host.Outcome.next.inj ht
    exact h.serve (fun u hu => orMalformed_preserves hu (hu.subscribe p kinds start count indices)) _ tag
  | readSnapshotNext p tag kind unused =>
    obtain rfl := Host.Outcome.next.inj ht
    exact h.serve (fun u hu => hu.readSnapshotNext p kind) _ tag
  | commitSwitchNow p tag ignored =>
    obtain rfl := Host.Outcome.next.inj ht
    exact h.serve (fun u hu => hu.commitNow p) _ tag
  | acceptReference p tag =>
    obtain rfl := Host.Outcome.next.inj ht
    refine h.serve (fun u hu => ?_) _ tag
    unfold State.acceptReference
    split
    · exact hu.of_timebase id
    · exact hu
  | clearAlignment p tag =>
    obtain rfl := Host.Outcome.next.inj ht
    exact h.serve (fun u hu => hu.clearAlignment) _ tag
  | portReset p tag =>
    obtain rfl := Host.Outcome.next.inj ht
    exact h.serve (fun u hu => hu.portReset p) _ tag
  | _ => exact absurd rfl quiet

/-- The idle part keeps the invariants. -/
theorem AlignInv.idle {s : State} (h : AlignInv s) : AlignInv s.idle := by
  unfold State.idle
  split
  · exact State.whileOperating_preserves h (h.of_timebase fun none => by simpa using none)
  · exact Keeps.alignInv (.of_ports_eq rfl rfl rfl rfl) h

/-- Settles O55: each command, and the idle step, keeps the laws of the table and of the cursors. -/
theorem tableInvariant : Obligations.TableInvariant := by
  unfold Obligations.TableInvariant
  intro s t table cursors ht
  have h : AlignInv s := ⟨table, cursors⟩
  unfold step at ht
  split at ht
  next => exact Host.Outcome.next.inj ht ▸ h.idle
  next c rest pending => exact exec_alignInv (s := { s with pending := rest }) h t ht

end Sys2Proof.Machine
end

section
/-! PROOFS. The PPS edges that leave the table's slots alone: ignored, invalid, slewing, pausing, rejected (R7 to R16). -/

namespace Sys2Proof.Machine

/-- Settles O8: an ignored PPS has nothing to announce, and an invalid one is noted alone. -/
theorem invalidPpsOnlyNoted : Obligations.InvalidPpsOnlyNoted := by
  unfold Obligations.InvalidPpsOnlyNoted
  intro s on
  have run : exec .ppsEdge s = .next s.ppsEdge := congrArg _ (State.whileOperating_on on _)
  have noted : ∀ x, s.timebase.announced = some (x, false) → exec .ppsEdge s = .next (s.notePps x) := by
    intro x announced
    rw [run, State.ppsEdge, announced]
    simp
  refine ⟨fun none => ?_, fun m hm invalid => ⟨fun since => ?_, fun y since prev lt => ?_⟩⟩
  · rw [run, State.ppsEdge]
    simp [Timebase.announced, none]
  · exact noted m.marked (by simp [Timebase.announced, hm, since, invalid])
  · exact noted (y + 1) (by simp [Timebase.announced, hm, since, prev, invalid, secondPlusOne, lastSecond, lt])

/-- Acceptance is settled to NONE by a PPS whose error is not below −2 s (R16). -/
theorem Acceptance.afterPps_none (a : Acceptance) {e : Int} (h : -2000000000 ≤ e) : a.afterPps e = .none := by
  unfold Acceptance.afterPps
  split
  · rfl
  · rw [if_neg (by unfold correctionLimit; omega)]

/-- Settles O10: the error is corrected by a slew, or is 0 and needs none. -/
theorem smallErrorSlews : Obligations.SmallErrorSlews := by
  unfold Obligations.SmallErrorSlews
  intro s x t₀ valid set small
  have settled := s.timebase.acceptance.afterPps_none (e := errorOf x t₀) (by omega)
  have run := valid.exec_set set
  rw [State.applyError_corrects s x _ (.inl (by omega))] at run
  have raised := s.lockedForPps_raises x (errorOf x t₀)
  refine ⟨_, run, ?_⟩
  by_cases zero : errorOf x t₀ = 0
  · rw [zero] at settled raised ⊢
    rw [State.correct_zero]
    exact ⟨s.lockedForPps_frame x 0, by simp [settled], raised⟩
  · rw [State.correct_slew _ x _ zero (by omega)]
    refine ⟨?_, by simp [zero, settled, lockedBy], by simpa [RaisedInAll] using raised⟩
    rw [s.lockedForPps_frame x]
    rfl

/-- Settles O13: the error is kept, and every correction and both timers stop. -/
theorem excessiveErrorRejected : Obligations.ExcessiveErrorRejected := by
  unfold Obligations.ExcessiveErrorRejected
  intro s x t₀ valid set none large
  refine ⟨_, (valid.exec_set set).trans (congrArg _ (State.applyError_rejects s x _ large none)), ?_, by simp, ?_⟩
  · ext1 <;> simp
  · intro p
    simpa [State.reject] using State.enterTimeState_raises ((s.notePps x).setCorrection .none) .rejected p

/-- A pause begun outside a pause raises DISCONTINUITY and hands the mark on; within one it gives no new notice (R12). -/
theorem State.beginPause_notice (s : State) (p : Nat) (w : Bool) :
    (s.beginPause p w).table = { s.table with mark := s.table.mark || !w } ∧
      RaisedInAll (if w then [] else [.discontinuity]) s (s.beginPause p w) := by
  unfold State.beginPause
  cases w with
  | true => exact ⟨by simp, RaisedInAll.of_ports_eq (by simp)⟩
  | false =>
    exact ⟨by simp [State.raiseDiscontinuity],
      by simpa [RaisedInAll] using (s.setCorrection (.pause (s.after (p / 10)))).raiseDiscontinuity_raises⟩

/-- Settles O12: the pause runs for the size of the error, with a notice when none was in progress. -/
theorem negativeErrorPauses : Obligations.NegativeErrorPauses := by
  unfold Obligations.NegativeErrorPauses
  intro s x t₀ valid set below within
  have run := valid.exec_set set
  rw [State.applyError_corrects s x _ (within.imp (by omega) id), State.correct_pause _ x _ below] at run
  obtain ⟨table, raised⟩ := (s.lockedForPps x (errorOf x t₀)).beginPause_notice (errorOf x t₀).natAbs
    s.timebase.correction.isPause
  have settled : s.timebase.acceptance.afterPps (errorOf x t₀) =
      if errorOf x t₀ < -2000000000 then .held else .none := by
    split
    next far =>
      cases accepted : s.timebase.acceptance with
      | none => exact absurd accepted (within.resolve_left (by omega))
      | armed => exact if_pos far
      | held => exact if_pos far
    next near => exact Acceptance.afterPps_none _ (by omega)
  refine ⟨_, run, ?_, ?_, by simpa using table, (s.lockedForPps_raises x _).trans raised⟩
  · ext1 <;> simp [State.lockedForPps]
  · simp [settled, lockedBy]

end Sys2Proof.Machine
end

section
/-! PROOFS. Reset values, the reset line, time messages, the second boundary, and the requests STATUS, COMMIT SWITCH NOW,
RELEASE STREAM and ACCEPT REFERENCE. -/

namespace Sys2Proof.Machine

/-! ### Reset -/

/-- Every item of a bank of zeros is 0 (R134). -/
theorem Bank.zero_read (w : ItemPlace) : Bank.zero.read w = 0 := by
  cases w <;> simp [Bank.read, Bank.zero]

/-- Settles O3: each column of the reset tables, read off the reset values of its block. -/
theorem resetValues : Obligations.ResetValues := by
  unfold Obligations.ResetValues
  refine ⟨?_, fun l => ?_, ?_, ?_, ⟨fun i => ?_, ?_⟩, ⟨fun b w => ?_, ?_⟩, fun i => ?_, fun p => ?_, rfl⟩
  · simp [State.reset, Timebase.reset]
  · simp [State.reset, Lane.reset]
  · simp [State.reset, Arbiter.reset]
  · simp [State.reset, AlignTable.reset]
  · simp [State.reset, Supervisor.reset, StreamRecord.unconfigured]
  · simp [State.reset, Supervisor.reset]
  · have zero : State.reset.store.bank b = Bank.zero := by simp [State.reset, ProfileStore.reset, ProfileStore.bank]
    rw [zero]
    exact Bank.zero_read w
  · simp [State.reset, ProfileStore.reset]
  · simp [State.reset, Relay.reset]
  · simp [State.reset, Port.reset, ProfileCursor.reset, attention]

/-- An UNCONFIGURED stream record keeps the laws (R89, R113). -/
theorem StreamInv.unconfigured : StreamInv StreamRecord.unconfigured := by
  simp [StreamInv, StreamRecord.unconfigured, Health.judged, Health.expected]

/-- Settles O59: block by block. -/
theorem resetMeetsInvariants : Obligations.ResetMeetsInvariants := by
  unfold Obligations.ResetMeetsInvariants
  have align : AlignInv State.reset := .of_reset rfl rfl
  refine ⟨?_, align.1, align.2, ?_, .reset, ?_⟩
  · simp [StoreInv, State.reset, ProfileStore.reset]
  · refine ⟨fun i => ?_, ?_⟩
    · have record : State.reset.supervisor.streams[i] = StreamRecord.unconfigured := by
        simp [State.reset, Supervisor.reset]
      rw [record]
      refine ⟨.unconfigured, ?_⟩
      simp [StreamRecord.unconfigured, State.reset, ProfileStore.reset, ProfileStore.activeEnabled, ProfileStore.activeBank]
    · simp [State.reset, Supervisor.reset, ProfileStore.reset]
  · simp [LinkInv, State.reset, Lane.reset, Port.reset, Relay.reset]

/-- The supervisor after the reset line, by its fields (R113). -/
theorem Supervisor.resetLine_spec (ps : ProfileStore) :
    (Supervisor.resetLine ps).worst = [] ∧ (Supervisor.resetLine ps).worstSecond = none ∧
    (Supervisor.resetLine ps).fastWait.bank = ps.active ∧
    (ps.active = none → (Supervisor.resetLine ps).fastWait.ms = 0) ∧
    (∀ a, ps.active = some a → (Supervisor.resetLine ps).fastWait.ms = initialFastWait (ps.bank a)) ∧
    ∀ i : StreamId,
      (∀ a, ps.active = some a → (ps.bank a).enabled i = true →
        (Supervisor.resetLine ps).streams[i] = StreamRecord.unconfigured.setAwaiting 0 (ps.bank a).silenceLimit) ∧
      ((∀ a, ps.active = some a → (ps.bank a).enabled i = false) →
        (Supervisor.resetLine ps).streams[i] = StreamRecord.unconfigured) := by
  cases active : ps.active with
  | none => simp [Supervisor.resetLine, active, Supervisor.reset]
  | some a =>
    simp only [Supervisor.resetLine, active]
    refine ⟨trivial, trivial, trivial, by simp, by simp, fun i => ⟨?_, fun off => ?_⟩⟩
    · rintro a' ⟨rfl⟩ on
      simp [on]
    · simp [off a rfl]

/-- Settles O5: the reset line keeps what the store keeps, and its release starts elapsed time. -/
theorem resetLineActs : Obligations.ResetLineActs := by
  unfold Obligations.ResetLineActs
  intro s
  obtain ⟨worst, second, bank, inactive, wait, streams⟩ := Supervisor.resetLine_spec s.store
  refine ⟨⟨_, rfl, rfl, worst, second, bank, inactive, wait, fun i => ⟨fun a active on => ?_, (streams i).2⟩⟩, ?_, ?_⟩
  · have awaiting := (streams i).1 a active on
    simp only [StreamRecord.setAwaiting, silenceExpiry, elapsedSecond, Nat.zero_add] at awaiting
    exact awaiting
  · intro low
    simp [exec, execResetLineRelease, low]
  · intro high
    simp [exec, execResetLineRelease, high]

/-! ### Time messages -/

/-- A start byte and seven bytes behind it, on a hunting receiver, arrive as one message (R187). -/
theorem State.timeLine_whole (s : State) (hunting : s.timebase.rx = .hunting) (bs : List Byte) (len : bs.length = 7) :
    s.timeLine ((0xC3 :: bs).map LineEvent.byte) = s.timeArrival (.whole bs) := by
  obtain ⟨tail, last, rfl⟩ : ∃ tail last, bs = tail ++ [last] :=
    ⟨bs.dropLast, bs.getLast (by rintro rfl; cases len), (List.dropLast_append_getLast _).symm⟩
  rw [List.length_append, List.length_singleton] at len
  have receiving : s.timeEvent (.byte 0xC3) =
      { s with timebase := { s.timebase with rx := .receiving [] s.timebase.elapsed } } := by
    simp [State.timeEvent, timeReceive, hunting, State.timeArrival]
  have back : ({ s with timebase := { s.timebase with rx := .hunting } } : State) = s := by
    rw [← hunting]
  rw [State.timeLine, hunting, Rx.sees_hunting, List.map_cons, List.foldl_cons, receiving]
  refine foldl_gather State.timeEvent
    (fun got => { s with timebase := { s.timebase with rx := .receiving got s.timebase.elapsed } }) _ [] tail last ?_ ?_
  · rintro mid b rest rfl
    have short : ¬ mid.length + 1 = 7 := by simp at len; omega
    simp [State.timeEvent, timeReceive, State.timeArrival, short]
  · have whole : tail.length + 1 = 7 := len
    simp [State.timeEvent, timeReceive, whole, back]

/-- The message that a time message carries on the line is the one that was sent (R186, R187). -/
theorem checkTimeMessage_sent (m : TimeMessage) (fits : m.marked < 2 ^ 32) (flag : Byte)
    (valid : (flag.toNat % 2 == 1) = m.valid) :
    checkTimeMessage (bytesOf 4 m.marked ++ [flag] ++ bytesOf 2 (crc16 (bytesOf 4 m.marked ++ [flag])).toNat) = some m := by
  have body : (bytesOf 4 m.marked ++ [flag]).length = 5 := by simp
  have marked : valueOf (bytesOf 4 m.marked) = m.marked := valueOf_bytesOf (by omega)
  unfold checkTimeMessage
  rw [List.take_left' body, List.drop_left' body, valueOf_crc16, if_pos rfl]
  have second : field (bytesOf 4 m.marked ++ [flag] ++ bytesOf 2 (crc16 (bytesOf 4 m.marked ++ [flag])).toNat) 0 4
      = m.marked := by
    rw [field, List.drop_zero, List.append_assoc, List.take_left' (by simp), marked]
  have last : field (bytesOf 4 m.marked ++ [flag] ++ bytesOf 2 (crc16 (bytesOf 4 m.marked ++ [flag])).toNat) 4 1
      = flag.toNat := by
    rw [field, List.append_assoc, List.drop_left' (by simp)]
    simp
  rw [second, last, valid]

/-- Settles O7: a whole message is kept when its check value agrees, and a gap past the limit breaks one off. -/
theorem timeMessageTaken : Obligations.TimeMessageTaken := by
  unfold Obligations.TimeMessageTaken
  intro s on
  have run : ∀ (u : State) line, u.operating = true → exec (.timeMessage line) u = .next (u.timeLine line) :=
    fun u line hu => congrArg _ (State.whileOperating_on hu _)
  refine ⟨fun hunting => ⟨fun m fits => ?_, fun body check body5 check2 wrong => ?_⟩, fun got last receiving =>
    ⟨fun near => ?_, fun past line => ?_⟩⟩
  · have taken := checkTimeMessage_sent m fits (if m.valid then 0x01 else 0x00) (by cases m.valid <;> rfl)
    rw [run s _ on, TimeMessage.bytes]
    dsimp only
    rw [List.cons_append, State.timeLine_whole s hunting _ (by simp)]
    unfold State.timeArrival
    dsimp only
    rw [taken]
    rfl
  · have failed : checkTimeMessage (body ++ check) = none := by
      unfold checkTimeMessage
      rw [List.take_left' body5, List.drop_left' body5, if_neg (Ne.symm wrong)]
    rw [run s _ on, List.cons_append, State.timeLine_whole s hunting _ (by simp [body5, check2])]
    unfold State.timeArrival
    dsimp only
    rw [failed]
  · rw [run s _ on, State.timeLine, receiving, Rx.sees_receiving,
      if_neg (by simp only [timeGapTime, elapsedSecond]; omega)]
    rfl
  · have gap : timeGapTime < s.timebase.elapsed - last := by simp only [timeGapTime, elapsedSecond]; omega
    have broken : s.timeEvent .longGap = { s with timebase := { s.timebase with rx := .hunting } } := by
      simp [State.timeEvent, timeReceive, receiving, State.timeArrival]
    rw [run s line on, run { s with timebase := { s.timebase with rx := .hunting } } line on, State.timeLine, State.timeLine,
      receiving, Rx.sees_receiving, if_pos gap, Rx.sees_hunting, List.foldl_cons, broken]

/-! ### The second boundary -/

/-- The peaks that the fast wait is set from are those of the LIVE gating streams (R105). -/
theorem mem_gatingPeaks (b : Bank) (streams : Vector StreamRecord 48) (P : Nat) :
    P ∈ gatingPeaks b streams ↔ GatingPeak b streams P := by
  simp only [gatingPeaks, List.mem_filterMap, allStreams, List.mem_finRange, true_and, GatingPeak]
  refine exists_congr fun i => ?_
  constructor
  · intro h
    split at h
    next listed =>
      obtain ⟨k, hk, peak⟩ := Option.map_eq_some_iff.mp h
      exact ⟨listed.1, listed.2, k, hk, peak⟩
    next => cases h
  · rintro ⟨live, gating, k, hk, peak⟩
    rw [if_pos ⟨live, gating⟩, hk, ← peak]
    rfl

/-- The greatest of a list of peaks is what folding `max` over it gives. -/
theorem foldl_max_eq {p : Nat} {ps : List Nat} {W : Nat} (mem : W ∈ p :: ps) (greatest : ∀ P ∈ p :: ps, P ≤ W) :
    ps.foldl max p = W := by
  have bound : ∀ (l : List Nat) (q : Nat), q ≤ W → (∀ P ∈ l, P ≤ W) → q = W ∨ W ∈ l → l.foldl max q = W := by
    intro l
    induction l with
    | nil => exact fun q _ _ h => h.elim id fun none => by cases none
    | cons r l ih =>
      intro q hq hl h
      have hr := hl r (by simp)
      refine ih (max q r) (max_le hq hr) (fun P hP => hl P (by simp [hP])) ?_
      rcases h with rfl | h
      · exact .inl (max_eq_left hr)
      · rcases List.mem_cons.mp h with rfl | h
        · exact .inl (max_eq_right hq)
        · exact .inr h
  refine bound ps p (greatest p (by simp)) (fun P hP => greatest P (by simp [hP])) ?_
  exact (List.mem_cons.mp mem).imp Eq.symm id

/-- The fast wait a second boundary sets (R105, R106). -/
theorem secondFastWait_spec (b : Bank) (streams : Vector StreamRecord 48) :
    (b.adaptive = false → secondFastWait b streams = b.fixedWait) ∧
    (b.adaptive = true →
      ((∀ P, ¬ GatingPeak b streams P) → secondFastWait b streams = b.fastMax) ∧
      (∀ W, GatingPeak b streams W → (∀ P, GatingPeak b streams P → P ≤ W) →
        secondFastWait b streams = min (max ((W + 999) / 1000 + b.margin) b.fastMin) b.fastMax)) := by
  refine ⟨fun off => by simp [secondFastWait, off], fun on => ⟨fun no => ?_, fun W peak greatest => ?_⟩⟩
  · have empty : gatingPeaks b streams = [] :=
      List.eq_nil_iff_forall_not_mem.mpr fun P mem => no P ((mem_gatingPeaks b streams P).mp mem)
    simp [secondFastWait, on, empty]
  · have mem := (mem_gatingPeaks b streams W).mpr peak
    have bound : ∀ P ∈ gatingPeaks b streams, P ≤ W := fun P hP => greatest P ((mem_gatingPeaks b streams P).mp hP)
    unfold secondFastWait
    rw [if_pos on]
    split
    next empty => rw [empty] at mem; cases mem
    next p ps list =>
      rw [list] at mem bound
      rw [foldl_max_eq mem bound, raiseThenLower]

/-- The supervisor after its work at a second boundary, by its fields (R103 to R106). -/
theorem State.supervisorSecond_spec (s : State) (x : Nat) :
    (∀ i : StreamId, (s.supervisorSecond x).supervisor.streams[i] = s.supervisor.streams[i].decayPeak) ∧
    (s.supervisorSecond x).supervisor.worstSecond = some x ∧
    (s.store.active = none → (s.supervisorSecond x).supervisor.fastWait = s.supervisor.fastWait) ∧
    (∀ a, s.store.active = some a → (s.supervisorSecond x).supervisor.fastWait =
      ⟨secondFastWait (s.store.bank a) (s.supervisorSecond x).supervisor.streams, some a⟩) := by
  refine ⟨fun i => ?_, ?_, fun none => ?_, fun a active => ?_⟩
  · simp [State.supervisorSecond]
  · simp [State.supervisorSecond]
  · simp [State.supervisorSecond, none]
  · simp [State.supervisorSecond, active]

/-- Settles O15: with no switch due the second boundary is the supervisor's work alone. -/
theorem secondBoundaryWork : Obligations.SecondBoundaryWork := by
  unfold Obligations.SecondBoundaryWork
  intro s t₀ on set runs fresh early
  have due : s.secondDue = some t₀.second := by simp [State.secondDue, set, runs, fresh]
  have noSwitch : (s.supervisorSecond t₀.second).storeSecond t₀.second = s.supervisorSecond t₀.second := by
    unfold State.storeSecond
    split
    next S hS => rw [if_neg (Nat.not_le.mpr (early S (by simpa using hS)))]
    next => rfl
  have run : exec .secondBoundary s = .next (s.takeSecond t₀.second) := by
    have step : exec .secondBoundary s = .next s.takeDueSecond := congrArg _ (State.whileOperating_on on _)
    rw [step, State.takeDueSecond, due]
  have supervisor : (s.takeSecond t₀.second).supervisor = (s.supervisorSecond t₀.second).supervisor := by
    simp [State.takeSecond, noSwitch]
  obtain ⟨streams, second, inactive, active⟩ := s.supervisorSecond_spec t₀.second
  refine ⟨_, run, ?_, ?_⟩
  · ext1 <;> simp [State.takeSecond, noSwitch]
  · rw [supervisor]
    refine ⟨fun i => streams i, second, inactive, fun a ha => ?_⟩
    obtain ⟨fixed, adaptive⟩ := secondFastWait_spec (s.store.bank a) (s.supervisorSecond t₀.second).supervisor.streams
    rw [active a ha]
    exact ⟨rfl, fixed, adaptive⟩

end Sys2Proof.Machine
end

section
/-! PROOFS. The requests STATUS, COMMIT SWITCH NOW, RELEASE STREAM and ACCEPT REFERENCE (R15, R97, R129, R152). -/

namespace Sys2Proof.Machine

/-! ### STATUS -/

/-- The slots of a table are OPEN, FAST_CUT or CLOSED, each one of them (R60). -/
theorem AlignTable.countState_sum (t : AlignTable) :
    t.countState .opened + t.countState .fastCut + t.countState .closed = t.slots.length := by
  unfold AlignTable.countState
  induction t.slots with
  | nil => rfl
  | cons sl l ih =>
    simp only [List.countP_cons, List.length_cons]
    cases sl.state <;> simp <;> omega

/-- A slot is FAST_CUT when it holds its fast cut alone (R60). -/
theorem Slot.state_fastCut (sl : Slot) : sl.state = .fastCut ↔ sl.fastCut.isSome = true ∧ sl.fullCut.isNone = true := by
  unfold Slot.state
  split <;> simp [*]

/-- The counts of slots by state, read from the cuts (R87). -/
theorem AlignTable.countState_cuts (t : AlignTable) :
    t.countState .opened = t.slots.countP (fun sl => sl.fastCut.isNone) ∧
    t.countState .fastCut = t.slots.countP (fun sl => sl.fastCut.isSome && sl.fullCut.isNone) := by
  refine ⟨List.countP_congr fun sl _ => ?_, List.countP_congr fun sl _ => ?_⟩
  · rw [beq_iff_eq, Slot.state_opened, Option.isNone_iff_eq_none]
  · rw [beq_iff_eq, Slot.state_fastCut, Bool.and_eq_true]

/-- The numbers of a kind, as the table and as the statements list them (R83). -/
theorem AlignTable.oldest_eq (t : AlignTable) (k : SnapKind) : t.oldest k = (numbersOf k t).head? := by
  cases k <;> rfl

/-- Each stream is in one health state (R89, R112). -/
theorem sum_countP_health (f : StreamId → Health) (l : List StreamId) :
    (allHealths.map fun h => l.countP fun i => decide (f i = h)).sum = l.length := by
  induction l with
  | nil => rfl
  | cons i l ih =>
    simp only [allHealths, List.map_cons, List.map_nil, List.sum_cons, List.sum_nil, List.countP_cons,
      List.length_cons] at ih ⊢
    cases f i <;> simp <;> omega

/-- Settles O37: item by item, the report of the state in which the handler has taken the request. -/
theorem statusReportsTheBlocks : Obligations.StatusReportsTheBlocks := by
  unfold Obligations.StatusReportsTheBlocks
  intro s p tag serves fits
  obtain ⟨t, run, frame, answered⟩ := serveStep_readOnly serves (.status p tag) tag
    (fun u => (u, .ok (.status (u.statusReport p)))) _ rfl
  obtain ⟨opened, fastCut⟩ := s.table.countState_cuts
  have slots := s.table.countState_sum
  have pending : s.relay.pendingCount ≤ 48 := by
    have := List.countP_le_length (p := fun i : StreamId => s.relay.slots[i].isSome) (l := allStreams)
    simpa [Relay.pendingCount, allStreams] using this
  refine ⟨t, _, run, frame, answered, ?_, ?_, ?_, ?_, ?_, rfl, pending, ?_⟩
  · simp [State.statusReport, Port.takeInHand]
  · refine ⟨rfl, rfl, rfl, rfl, rfl, ?_, ?_, ?_, ?_⟩
    · simp only [State.statusReport, State.updPort_timebase]
      cases s.timebase.state <;> rfl
    · simp only [State.statusReport, State.correctionReport, State.updPort_timebase]
      cases s.timebase.correction <;> rfl
    · simp only [State.statusReport, State.device, State.updPort_timebase, State.updPort_store]
      cases s.store.active <;> cases s.timebase.localTime <;> simp
    · simp only [State.statusReport, State.device, State.updPort_timebase, State.updPort_store]
      cases s.store.active <;> cases s.timebase.localTime <;> simp
  · refine ⟨?_, opened, fastCut, rfl, rfl, rfl, s.table.oldest_eq .fast, s.table.oldest_eq .full, rfl, rfl⟩
    simp only [State.statusReport, State.updPort_table]
    omega
  · refine ⟨?_, ?_, rfl⟩
    · simp [State.statusReport, allHealths, Supervisor.countHealth, allStreams, beq_eq_decide]
    · exact (sum_countP_health (fun i => s.supervisor.streams[i].health) allStreams).trans (by simp [allStreams])
  · refine ⟨rfl, rfl, rfl, ?_, rfl, ?_, rfl, rfl, rfl, rfl⟩
    · simp only [State.statusReport, State.updPort_store, ProfileStore.activeBank, Option.map_map]
      rfl
    · simp only [State.statusReport, State.updPort_store, ProfileStore.activeBank, Option.map_map]
      rfl
  · simp [State.statusReport, Port.takeInHand]

/-! ### COMMIT SWITCH NOW -/

/-- A port holds the claim when it is the holder. -/
theorem State.holds_iff (s : State) (p : PortId) : s.holds p = true ↔ ∃ c, s.store.claim = some c ∧ c.holder = p := by
  unfold State.holds
  cases s.store.claim <;> simp

/-- A request whose owner answers and leaves every port: what it leaves of the state, with its port answered. -/
theorem serveStep_answers {s : State} {p : PortId} (h : Serves s p) (c : Instr) (tag : Byte)
    {owner : State → State × Reply} {u : State} {r : Reply}
    (ho : owner (s.updPort p (Port.takeInHand c)) = (u, r)) (ports : u.ports = update s.ports p (Port.takeInHand c)) :
    ∃ t, serveStep c p tag owner s = .next t ∧ t = { u with ports := t.ports } ∧
      AnsweredAt p tag r.code r.result s.ports[p] s t := by
  refine ⟨_, serveStep_idle h c tag owner, ?_, State.answer_answered ho ?_ fun i hi => ?_⟩
  · rw [State.answer, ho]
    rfl
  · simp [ports]
  · simp [ports, hi]

theorem otherBank_ne (b : BankId) : otherBank b ≠ b := by
  unfold otherBank
  split
  next zero => simp [zero]
  next other => exact Ne.symm other

/-- The supervisor's streams after the activation of a bank while none is active (R108). -/
theorem State.activate_streams_unprovisioned (s : State) (none : s.store.active = none) (x : Option Nat)
    (d : Option Draining) (i : StreamId) : (s.activate x d).supervisor.streams[i] =
      if (s.store.bank s.store.standby).enabled i
      then StreamRecord.unconfigured.setAwaiting s.timebase.elapsed (s.store.bank s.store.standby).silenceLimit
      else StreamRecord.unconfigured := by
  have old : s.store.activeBank = Option.none := by simp [ProfileStore.activeBank, none]
  simp only [State.activate, State.latchAll_supervisor, State.supervisorActivation, old, Fin.getElem_fin, updateAll_get]
  rfl

/-- The table at an entry into ALIGNING by COMMIT SWITCH NOW: the current epoch is declared passed and the mark handed on,
once local time is set (R20, R63). -/
theorem State.enterAligningNow_table {s : State} {b : BankId} (active : s.store.active = some b)
    (pending : s.store.pendingSwitch = none) (draining : s.store.draining = none) :
    (s.timebase.localTime = none → s.enterAligningNow.table = s.table) ∧
    ∀ t₀, s.timebase.localTime = some t₀ → s.enterAligningNow.table = { s.table with
      horizon := some ⟨t₀.second, t₀.ns * (s.store.bank b).rate / 1000000000⟩
      mark := true } := by
  refine ⟨fun unset => by simp [State.enterAligningNow, State.currentEpoch, unset], fun t₀ set => ?_⟩
  have governs := s.store.governing_active t₀.second b active pending draining
  have current : s.currentEpoch = some (epochAt (s.store.bank b).rate t₀) := by
    simp [State.currentEpoch, set, ProfileStore.governingBank, governs]
  unfold State.enterAligningNow
  rw [current]
  rfl

/-- COMMIT SWITCH NOW at the store, by its four answers (R125, R129). -/
theorem State.commitNow_eq (s : State) (p : PortId) :
    (s.holds p = false → s.commitNow p = (s, .bare .notHolder)) ∧
    (s.holds p = true →
      (s.store.active.isSome = true → s.commitNow p = (s.startClaim p, .bare .state)) ∧
      (s.store.active = none →
        (∀ a, (s.store.bank s.store.standby).failing = some a →
          s.commitNow p = (s.startClaim p, { code := .refused, result := .failing a })) ∧
        ((s.store.bank s.store.standby).failing = none →
          s.commitNow p = (((s.setClaim none).activate none none).enterAligningNow, .bare .ok)))) := by
  unfold State.commitNow
  refine ⟨fun no => by simp [no], fun held => ⟨fun active => by simp [held, active, State.refuseCommit], fun none =>
    ⟨fun a failing => by simp [held, none, failing, State.refuseCommit], fun passes => by simp [held, none, passes]⟩⟩⟩

/-- Settles O48: the four answers, and the activation of the standby bank where no bank is active. -/
theorem commitNowProvisions : Obligations.CommitNowProvisions := by
  unfold Obligations.CommitNowProvisions
  intro s p tag ignored serves
  obtain ⟨notHolder, holder⟩ := (s.updPort p (Port.takeInHand (.commitSwitchNow p tag ignored))).commitNow_eq p
  refine ⟨fun none => ?_, fun claim hclaim hp => ?_⟩
  · refine serveStep_refuses serves _ tag (fun u => u.commitNow p) .notHolder (notHolder ?_)
    rw [← Bool.not_eq_true, State.holds_iff]
    rintro ⟨c, hc, held⟩
    exact none c hc held
  · obtain ⟨provisioned, unprovisioned⟩ := holder ((State.holds_iff _ p).mpr ⟨claim, hclaim, hp⟩)
    refine ⟨fun active => ?_, fun a none failing => ?_, fun none passes => ?_⟩
    · exact serveStep_answers serves _ tag (owner := fun u => u.commitNow p) (provisioned active) (by simp)
    · exact serveStep_answers serves _ tag (owner := fun u => u.commitNow p) ((unprovisioned none).1 a failing) (by simp)
    · have work := (unprovisioned none).2 passes
      generalize hu : (s.updPort p (Port.takeInHand (.commitSwitchNow p tag ignored))).setClaim Option.none = u at work
      have ports : u.ports = update s.ports p (Port.takeInHand (.commitSwitchNow p tag ignored)) := hu ▸ rfl
      have store : u.store = { s.store with claim := Option.none } := hu ▸ rfl
      have timebase : u.timebase = s.timebase := hu ▸ rfl
      have table : u.table = s.table := hu ▸ rfl
      obtain ⟨unset, set⟩ := State.enterAligningNow_table (s := u.activate Option.none Option.none)
        (b := s.store.standby) (by simp [store]) (by simp) (by simp)
      have bank : ∀ b, (u.activate Option.none Option.none).store.bank b = s.store.bank b := by
        intro b
        simp [store, ProfileStore.bank]
      simp only [State.activate_timebase, State.activate_table, timebase, table, bank] at unset set
      refine ⟨_, serveStep_idle serves _ tag _, ?_, ?_, ?_, ?_, ?_, ?_, ?_, ?_⟩
      · rw [State.answer, work]
        subst hu
        ext1 <;> simp
      · rw [State.answer, work]
        simp [store]
      · rw [State.answer, work]
        simpa [store] using otherBank_ne _
      · intro i
        rw [State.answer, work]
        simp only [State.updPort_supervisor, State.enterAligningNow_supervisor]
        rw [State.activate_streams_unprovisioned u (by simp [store, none])]
        simp only [store, timebase]
        rfl
      · intro h
        rw [State.answer, work]
        simpa using unset h
      · intro t₀ h
        rw [State.answer, work]
        simpa using set t₀ h
      · intro q hq
        rw [State.answer, work]
        simpa [hq, ports] using Raised.latch .profileSwitched s.ports[q]
      · rw [State.answer, work]
        have answers : ∀ q, Port.respond tag (.bare .ok) (Port.latch .profileSwitched
            (Port.takeInHand (.commitSwitchNow p tag ignored) q)) = (answered tag .ok .empty q).latch .profileSwitched :=
          fun _ => rfl
        simpa [ports, answers] using Raised.latch .profileSwitched (answered tag .ok .empty s.ports[p])

/-! ### RELEASE STREAM and ACCEPT REFERENCE -/

/-- A stream index is decoded from its byte, and no other byte is (R97). -/
theorem decodeStream_eq (index : Byte) :
    (48 ≤ index.toNat → decodeStream index = none) ∧
    ∀ i : StreamId, index.toNat = i.val → decodeStream index = some i := by
  unfold decodeStream
  refine ⟨fun h => dif_neg (by omega), fun i h => ?_⟩
  rw [dif_pos (h ▸ i.isLt)]
  exact congrArg some (Fin.ext h)

/-- Settles O51: each request by the state it finds. -/
theorem releaseAndAccept : Obligations.ReleaseAndAccept := by
  unfold Obligations.ReleaseAndAccept
  intro s p tag serves
  refine ⟨fun index out => ?_, fun index i named => ⟨fun notQuarantined => ?_, fun a quarantined active => ?_⟩,
    fun rejected => ?_, fun notRejected => ?_⟩
  · refine serveStep_refuses serves _ tag (fun u => u.releaseStream index) .invalid ?_
    simp [State.releaseStream, (decodeStream_eq index).1 out]
  · refine serveStep_refuses serves _ tag (fun u => u.releaseStream index) .state ?_
    have health : s.supervisor.streams[i.val].health ≠ .quarantined := notQuarantined
    simp [State.releaseStream, (decodeStream_eq index).2 i named, health]
  · have health : s.supervisor.streams[i.val].health = .quarantined := quarantined
    have limit : ∀ c, (s.updPort p (Port.takeInHand c)).silenceLimit = (s.store.bank a).silenceLimit := by
      intro c
      simp [State.silenceLimit, ProfileStore.activeBank, active]
    obtain ⟨t, run, frame, answered⟩ := serveStep_answers serves (.releaseStream p tag index) tag
      (owner := fun u => u.releaseStream index) (r := .bare .ok)
      (u := (s.updPort p (Port.takeInHand (.releaseStream p tag index))).updStream i fun r =>
        r.forgetFaults.setAwaiting s.timebase.elapsed (s.store.bank a).silenceLimit)
      (by simp [State.releaseStream, (decodeStream_eq index).2 i named, health, limit])
      (by simp)
    have streams : t.supervisor.streams = update s.supervisor.streams i fun r =>
        r.forgetFaults.setAwaiting s.timebase.elapsed (s.store.bank a).silenceLimit := by
      rw [frame]
      simp
    refine ⟨t, run, ?_, answered, fun j hj => ?_, ?_⟩
    · rw [streams, frame]
      ext1 <;> simp
    · rw [streams]
      simp [hj]
    · rw [streams]
      simp [StreamRecord.setAwaiting, StreamRecord.forgetFaults, silenceExpiry, elapsedSecond]
  · obtain ⟨t, run, frame, answered⟩ := serveStep_answers serves (.acceptReference p tag) tag
      (owner := State.acceptReference) (if_pos rejected) rfl
    exact ⟨t, run, frame, answered⟩
  · exact serveStep_refuses serves _ tag State.acceptReference .state (if_neg notRejected)

end Sys2Proof.Machine
end

section
/-! PROOFS. How slots evolve through deadlines and release passes, the deadlines that local time has taken, and what an
opening under a free number makes (R63 to R70, R78 to R82). -/

namespace Sys2Proof.Machine

/-! ### Slots that evolve -/

/-- Slot `b` is slot `a` with more of its readiness and its cuts: all else stands, and what was ready is ready. -/
def Slot.Evolves (a b : Slot) : Prop :=
  b = { a with fastReady := b.fastReady, fullReady := b.fullReady, fastCut := b.fastCut, fullCut := b.fullCut } ∧
    (a.fastReady.isSome = true → b.fastReady.isSome = true) ∧ (a.fullReady.isSome = true → b.fullReady.isSome = true)

theorem Slot.Evolves.refl (a : Slot) : a.Evolves a := ⟨rfl, id, id⟩

theorem Slot.Evolves.trans {a b c : Slot} (h : a.Evolves b) (h' : b.Evolves c) : a.Evolves c := by
  obtain ⟨frame, fast, full⟩ := h
  obtain ⟨frame', fast', full'⟩ := h'
  refine ⟨?_, fast' ∘ fast, full' ∘ full⟩
  rw [frame', frame]

theorem Slot.Evolves.key {a b : Slot} (h : a.Evolves b) : b.key = a.key := by rw [h.1]

theorem Slot.Evolves.entries {a b : Slot} (h : a.Evolves b) : b.entries = a.entries := by rw [h.1]

theorem Slot.Evolves.fastDeadline {a b : Slot} (h : a.Evolves b) : b.fastDeadline = a.fastDeadline := by rw [h.1]

theorem Slot.Evolves.fullDeadline {a b : Slot} (h : a.Evolves b) : b.fullDeadline = a.fullDeadline := by rw [h.1]

/-- From table `t` to table `u` every slot has evolved in its place; H, the mark and the last generation stand. -/
structure AlignTable.Evolves (t u : AlignTable) : Prop where
  slots : List.Forall₂ Slot.Evolves t.slots u.slots
  horizon : u.horizon = t.horizon
  mark : u.mark = t.mark
  lastGeneration : u.lastGeneration = t.lastGeneration

theorem forall₂_evolves_refl (l : List Slot) : List.Forall₂ Slot.Evolves l l := List.forall₂_same.mpr fun sl _ => .refl sl

theorem forall₂_evolves_trans {l m n : List Slot} (h : List.Forall₂ Slot.Evolves l m)
    (h' : List.Forall₂ Slot.Evolves m n) : List.Forall₂ Slot.Evolves l n := by
  induction h generalizing n with
  | nil => exact h'
  | cons first _ ih =>
    cases h' with
    | cons first' rest' => exact .cons (first.trans first') (ih rest')

theorem AlignTable.Evolves.refl (t : AlignTable) : t.Evolves t := ⟨forall₂_evolves_refl _, rfl, rfl, rfl⟩

theorem AlignTable.Evolves.trans {t u v : AlignTable} (h : t.Evolves u) (h' : u.Evolves v) : t.Evolves v :=
  ⟨forall₂_evolves_trans h.slots h'.slots, h'.horizon.trans h.horizon, h'.mark.trans h.mark,
    h'.lastGeneration.trans h.lastGeneration⟩

theorem forall₂_evolves_keys {l m : List Slot} (h : List.Forall₂ Slot.Evolves l m) :
    m.map Slot.key = l.map Slot.key := by
  induction h with
  | nil => rfl
  | cons first _ ih => rw [List.map_cons, List.map_cons, ih, first.key]

theorem forall₂_evolves_backward {l m : List Slot} (h : List.Forall₂ Slot.Evolves l m) {sl : Slot} (mem : sl ∈ m) :
    ∃ o ∈ l, o.Evolves sl := by
  induction h with
  | nil => cases mem
  | cons first _ ih =>
    rcases List.mem_cons.mp mem with rfl | mem
    · exact ⟨_, List.mem_cons_self, first⟩
    · obtain ⟨o, memo, evolves⟩ := ih mem
      exact ⟨o, List.mem_cons_of_mem _ memo, evolves⟩

theorem forall₂_evolves_forward {l m : List Slot} (h : List.Forall₂ Slot.Evolves l m) {sl : Slot} (mem : sl ∈ l) :
    ∃ sl' ∈ m, sl.Evolves sl' := by
  induction h with
  | nil => cases mem
  | cons first _ ih =>
    rcases List.mem_cons.mp mem with rfl | mem
    · exact ⟨_, List.mem_cons_self, first⟩
    · obtain ⟨sl', mem', evolves⟩ := ih mem
      exact ⟨sl', List.mem_cons_of_mem _ mem', evolves⟩

/-- The keys stand. -/
theorem AlignTable.Evolves.keys {t u : AlignTable} (h : t.Evolves u) : u.slots.map Slot.key = t.slots.map Slot.key :=
  forall₂_evolves_keys h.slots

/-- Every slot has a slot that it has become. -/
theorem AlignTable.Evolves.forward {t u : AlignTable} (h : t.Evolves u) {sl : Slot} (mem : sl ∈ t.slots) :
    ∃ sl' ∈ u.slots, sl.Evolves sl' := forall₂_evolves_forward h.slots mem

/-- Every slot has a slot that it has come from. -/
theorem AlignTable.Evolves.backward {t u : AlignTable} (h : t.Evolves u) {sl : Slot} (mem : sl ∈ u.slots) :
    ∃ o ∈ t.slots, o.Evolves sl := forall₂_evolves_backward h.slots mem

/-! ### The operations evolve the slots -/

/-- A slot of an epoch evolved in its place. -/
theorem AlignTable.modify_evolves (t : AlignTable) (e : EpochKey) {f : Slot → Slot} (hf : ∀ sl : Slot, sl.Evolves (f sl)) :
    t.Evolves (t.modify e f) := by
  refine ⟨?_, rfl, rfl, rfl⟩
  refine List.forall₂_map_right_iff.mpr (List.forall₂_same.mpr fun sl _ => ?_)
  split
  · exact hf sl
  · exact .refl sl

theorem fastPass_evolves (l : List Slot) : ∀ n, List.Forall₂ Slot.Evolves l (fastPass l n).1 := by
  induction l with
  | nil => exact fun _ => .nil
  | cons sl l ih =>
    intro n
    unfold fastPass
    split
    · exact .cons (.refl sl) (ih n)
    · exact forall₂_evolves_refl _
    · exact .cons ⟨rfl, id, id⟩ (ih (n + 1))

theorem fullPass_evolves (l : List Slot) : ∀ n, List.Forall₂ Slot.Evolves l (fullPass l n).1 := by
  induction l with
  | nil => exact fun _ => .nil
  | cons sl l ih =>
    intro n
    unfold fullPass
    split
    · exact .cons (.refl sl) (ih n)
    · exact .cons ⟨rfl, id, id⟩ (ih (n + 1))
    · exact forall₂_evolves_refl _

theorem AlignTable.release_evolves (t : AlignTable) : t.Evolves t.release :=
  ⟨forall₂_evolves_trans (fastPass_evolves _ _) (fullPass_evolves _ _), rfl, rfl, rfl⟩

theorem State.releasePass_evolves (s : State) : s.table.Evolves s.releasePass.table := by
  rw [State.releasePass_table]
  exact s.table.release_evolves

theorem State.fastDeadline_evolves (s : State) (e : EpochKey) : s.table.Evolves (s.fastDeadline e).table := by
  unfold State.fastDeadline
  split
  · split
    · rw [State.releasePass_table]
      refine (s.table.modify_evolves e (f := fun sl => { sl with fastReady := some .deadline }) fun sl => ?_).trans
        (AlignTable.release_evolves _)
      exact ⟨rfl, fun _ => rfl, id⟩
    · exact .refl _
  · exact .refl _

theorem State.fullDeadline_evolves (s : State) (e : EpochKey) : s.table.Evolves (s.fullDeadline e).table := by
  unfold State.fullDeadline
  split
  · split
    · rw [State.releasePass_table]
      refine (s.table.modify_evolves e (f := fun sl => { sl with fullReady := some .deadline }) fun sl => ?_).trans
        (AlignTable.release_evolves _)
      exact ⟨rfl, id, fun _ => rfl⟩
    · exact .refl _
  · exact .refl _

theorem State.expireDeadlines_evolves (s : State) (es : List EpochKey) : s.table.Evolves (s.expireDeadlines es).table := by
  unfold State.expireDeadlines
  induction es generalizing s with
  | nil => exact .refl _
  | cons e es ih => exact ((s.fastDeadline_evolves e).trans ((s.fastDeadline e).fullDeadline_evolves e)).trans (ih _)

/-! ### Deadlines taken -/

/-- Each deadline of a slot that local time `t` has reached has made the slot ready (R78). -/
def Slot.Taken (t : LocalTime) (sl : Slot) : Prop :=
  (sl.fastDeadline.reached t = true → sl.fastReady.isSome = true) ∧
    (sl.fullDeadline.reached t = true → sl.fullReady.isSome = true)

theorem Slot.Taken.evolves {t : LocalTime} {a b : Slot} (h : a.Taken t) (e : a.Evolves b) : b.Taken t := by
  rw [Slot.Taken, e.fastDeadline, e.fullDeadline]
  exact ⟨fun r => e.2.1 (h.1 r), fun r => e.2.2 (h.2 r)⟩

section
variable {s : State} {t : LocalTime} (set : s.timebase.localTime = some t) (runs : s.timebase.correction.isPause = false)
include set runs

/-- Outside a pause a deadline expires when local time has reached it (R3). -/
theorem State.expired_of_reached {i : Instant} (h : i.reached t = true) : s.expired i = true := by
  simp [State.expired, set, runs, h]

/-- A fast deadline taken: the slot of the epoch is ready for its fast cut (R78). -/
theorem State.fastDeadline_takes (h : s.table.Laws) (e : EpochKey) : ∀ sl ∈ (s.fastDeadline e).table.slots, sl.key = e →
    sl.fastDeadline.reached t = true → sl.fastReady.isSome = true := by
  unfold State.fastDeadline
  split
  next o found =>
    obtain ⟨mem, key⟩ := AlignTable.find_some found
    split
    next =>
      intro sl hm hk _
      rw [State.releasePass_table] at hm
      obtain ⟨m, hmm, evolves⟩ := (AlignTable.release_evolves _).backward hm
      obtain ⟨m₀, -, rfl⟩ := List.mem_map.mp hmm
      apply evolves.2.1
      split
      next => rfl
      next other =>
        rw [if_neg other] at evolves
        exact absurd (evolves.key.symm.trans hk) other
    next no =>
      intro sl hm hk reached
      obtain rfl := key_unique h.order hm mem (hk.trans key.symm)
      by_contra unready
      have none : sl.fastReady = .none := by simpa using unready
      refine no ?_
      have opened : sl.state = .opened := by
        rw [Slot.state_opened]
        cases cut : sl.fastCut with
        | none => rfl
        | some c =>
          have := (h.slot sl hm).2.1 c cut
          simp [none] at this
      simp [State.expired_of_reached set runs reached, opened, none]
  next found =>
    intro sl hm hk
    exact absurd hk (AlignTable.find_none.mp found sl hm)

/-- A full deadline taken: the slot of the epoch is ready for its full cut (R78). -/
theorem State.fullDeadline_takes (h : s.table.Laws) (e : EpochKey) : ∀ sl ∈ (s.fullDeadline e).table.slots, sl.key = e →
    sl.fullDeadline.reached t = true → sl.fullReady.isSome = true := by
  unfold State.fullDeadline
  split
  next o found =>
    obtain ⟨mem, key⟩ := AlignTable.find_some found
    split
    next =>
      intro sl hm hk _
      rw [State.releasePass_table] at hm
      obtain ⟨m, hmm, evolves⟩ := (AlignTable.release_evolves _).backward hm
      obtain ⟨m₀, -, rfl⟩ := List.mem_map.mp hmm
      apply evolves.2.2
      split
      next => rfl
      next other =>
        rw [if_neg other] at evolves
        exact absurd (evolves.key.symm.trans hk) other
    next no =>
      intro sl hm hk reached
      obtain rfl := key_unique h.order hm mem (hk.trans key.symm)
      by_contra unready
      have none : sl.fullReady = .none := by simpa using unready
      refine no ?_
      have notClosed : sl.state ≠ .closed := by
        rw [Ne, Slot.state_closed]
        rintro ⟨-, full⟩
        obtain ⟨c, cut⟩ := Option.isSome_iff_exists.mp full
        have := (h.slot sl hm).2.2.1 c cut
        simp [none] at this
      simp [State.expired_of_reached set runs reached, notClosed, none]
  next found =>
    intro sl hm hk
    exact absurd hk (AlignTable.find_none.mp found sl hm)

end

/-- The expiries for a list of epochs take the deadlines of every slot of those epochs (R79). -/
theorem State.expireDeadlines_takes {t : LocalTime} (es : List EpochKey) : ∀ {s : State},
    s.timebase.localTime = some t → s.timebase.correction.isPause = false → s.table.Laws →
    ∀ sl ∈ (s.expireDeadlines es).table.slots, sl.key ∈ es → sl.Taken t := by
  induction es with
  | nil => exact fun _ _ _ _ _ none => by cases none
  | cons e es ih =>
    intro s set runs h sl hm hk
    have h₁ := (s.fastDeadline_keepsLaws e).laws h
    have h₂ := ((s.fastDeadline e).fullDeadline_keepsLaws e).laws h₁
    by_cases first : sl.key = e
    · obtain ⟨o, ho, evolves⟩ := (((s.fastDeadline e).fullDeadline e).expireDeadlines_evolves es).backward hm
      refine Slot.Taken.evolves ⟨fun reached => ?_, fun reached => ?_⟩ evolves
      · obtain ⟨o', ho', evolves'⟩ := ((s.fastDeadline e).fullDeadline_evolves e).backward ho
        exact evolves'.2.1 (State.fastDeadline_takes set runs h e o' ho'
          (evolves'.key.symm.trans (evolves.key.symm.trans first)) (evolves'.fastDeadline ▸ reached))
      · exact State.fullDeadline_takes (s := s.fastDeadline e) (by simpa using set) (by simpa using runs) h₁ e o ho
          (evolves.key.symm.trans first) reached
    · exact ih (s := (s.fastDeadline e).fullDeadline e) (by simpa using set) (by simpa using runs) h₂ sl hm
        ((List.mem_cons.mp hk).resolve_left first)

/-- Every expiry that local time has reached is taken (R79). -/
theorem State.expireAll_takes {s : State} {t : LocalTime} (set : s.timebase.localTime = some t)
    (runs : s.timebase.correction.isPause = false) (h : s.table.Laws) : DeadlinesTaken t s.expireAll.table.slots := by
  intro sl hm
  refine State.expireDeadlines_takes _ set runs h sl hm ?_
  have keys := (s.expireDeadlines_evolves (s.table.slots.map Slot.key)).keys
  rw [← keys]
  exact List.mem_map_of_mem hm

/-! ### Openings -/

/-- A slot after an opening stood before it or is the slot of the epoch (R66). -/
theorem State.openSlot_mem (s : State) (e : EpochKey) {sl : Slot} (hm : sl ∈ (s.openSlot e).1.table.slots) :
    sl ∈ s.table.slots ∨ sl.key = e := by
  have claimed : ∀ c, s.claimSlot = some c → ∀ o ∈ c.2.table.slots, o ∈ s.table.slots := by
    intro c hc o ho
    unfold State.claimSlot at hc
    split at hc
    · cases hc
      exact ho
    · split at hc
      next r hr =>
        cases hc
        obtain ⟨-, before, whole, rest, -⟩ := takeClosed_some _ r hr
        rw [whole]
        rw [show o ∈ _ ↔ o ∈ r.2 from Iff.rfl, rest] at ho
        rcases List.mem_append.mp ho with left | right
        · exact List.mem_append_left _ left
        · exact List.mem_append_right _ (List.mem_cons_of_mem _ right)
      next => cases hc
  unfold State.openSlot at hm
  split at hm
  next g c hg hc =>
    rcases List.mem_append.mp hm with old | new
    · exact .inl (claimed c hc sl old)
    · rw [List.mem_singleton.mp new]
      exact .inr rfl
  next => exact .inl hm

/-- The boundary of an epoch leaves every deadline taken that local time has reached, the new slot's among them (R64,
R70). -/
theorem State.epochBoundary_takes {s : State} {t : LocalTime} (set : s.timebase.localTime = some t)
    (runs : s.timebase.correction.isPause = false) (h : s.table.Laws) (taken : DeadlinesTaken t s.table.slots) :
    DeadlinesTaken t s.epochBoundary.table.slots := by
  unfold State.epochBoundary
  split
  next c hc =>
    split
    next may =>
      intro sl hm
      have opened := (State.openSlot_laws h may).1
      by_cases new : sl.key = c
      · exact State.expireDeadlines_takes [c] (s := (s.openSlot c).1) (by simpa using set) (by simpa using runs) opened sl
          hm (by simp [new])
      · obtain ⟨o, ho, evolves⟩ := ((s.openSlot c).1.expireDeadlines_evolves [c]).backward hm
        rcases s.openSlot_mem c ho with old | key
        · exact Slot.Taken.evolves (taken o old) evolves
        · exact absurd (evolves.key.trans key) new
    next => exact taken
  next => exact taken

/-- A slot number is free while fewer than 512 slots are held (R60, R66). -/
theorem freeNumber_isSome {l : List Slot} (short : l.length < 512) : ∃ n, freeNumber l = some n := by
  cases h : freeNumber l with
  | some n => exact ⟨n, rfl⟩
  | none =>
    have all := freeNumber_none.mp h
    have cover : (Finset.univ : Finset (Fin 512)) ⊆ (l.map Slot.number).toFinset := by
      intro n _
      obtain ⟨sl, hm, rfl⟩ := all n
      simpa using ⟨sl, hm, rfl⟩
    have card := (Finset.card_le_card cover).trans (l.map Slot.number).toFinset_card_le
    rw [Finset.card_univ, Fintype.card_fin, List.length_map] at card
    omega

/-- The table with a slot opened in it: behind the others, H its epoch, the mark consumed (R63, R66, R67). -/
def AlignTable.opened (t : AlignTable) (sl : Slot) : AlignTable :=
  { t with slots := t.slots ++ [sl], horizon := some sl.key, mark := false, lastGeneration := some sl.generation }

/-- The state with a slot opened in its table. -/
def State.opening (s : State) (sl : Slot) : State := { s with table := s.table.opened sl }

theorem State.opening_keys (s : State) (sl : Slot) :
    (s.opening sl).table.slots.map Slot.key = s.table.slots.map Slot.key ++ [sl.key] := by
  simp [State.opening, AlignTable.opened]

/-- An opening under a free number changes the table alone (R63, R66). -/
theorem State.openSlot_free (s : State) {e : EpochKey} {b : BankId} {g : Generation}
    (governs : s.store.governing e.second = some (b, g)) (short : s.table.slots.length < 512) :
    ∃ n, s.openSlot e = (s.opening (s.newSlot n e b g), true) := by
  obtain ⟨n, free⟩ := freeNumber_isSome short
  refine ⟨n, ?_⟩
  have claimed : s.claimSlot = some (n, s) := by
    unfold State.claimSlot
    rw [free]
  unfold State.openSlot
  rw [governs, claimed]
  rfl

/-- The boundary of an epoch that H lets open, under a free number: the table has the new slot, whose deadlines may have
expired at once, and no port changes (R64, R66, R70). -/
theorem State.epochBoundary_opens {s : State} {c : EpochKey} {b : BankId} {g : Generation}
    (current : s.currentEpoch = some c) (governs : s.store.governing c.second = some (b, g))
    (may : opens s.table.horizon c = true) (short : s.table.slots.length < 512) :
    ∃ n, (s.table.opened (s.newSlot n c b g)).Evolves s.epochBoundary.table ∧ s.epochBoundary.ports = s.ports := by
  obtain ⟨n, opened⟩ := s.openSlot_free governs short
  refine ⟨n, ?_⟩
  unfold State.epochBoundary
  rw [current]
  dsimp only
  rw [if_pos may, opened]
  exact ⟨(s.opening (s.newSlot n c b g)).expireDeadlines_evolves [c], by simp [State.opening]⟩

/-- The epoch at the top of a second is the first of it (R18). -/
theorem State.currentEpoch_ofSecond {s : State} {x : Nat} {b : BankId} {g : Generation}
    (set : s.timebase.localTime = some (.ofSecond x)) (governs : s.store.governing x = some (b, g)) :
    s.currentEpoch = some ⟨x, 0⟩ := by
  simp [State.currentEpoch, set, LocalTime.ofSecond, ProfileStore.governingBank, governs, epochAt]

end Sys2Proof.Machine
end

section
/-! PROOFS. The PPS edges that set local time: the first valid PPS, and a step (R3, R8, R11, R17, R18, R20, R21). -/

namespace Sys2Proof.Machine

/-! ### Kinds stay latched -/

/-- Every kind latched in a port of `s` is latched in the port in `t`. -/
def KeepsLatched (s t : State) : Prop :=
  ∀ (p : PortId) (k : Kind), kindIn k s.ports[p].latched = true → kindIn k t.ports[p].latched = true

theorem KeepsLatched.of_ports {s t : State} (h : t.ports = s.ports) : KeepsLatched s t := by
  intro p k latched
  rwa [h]

theorem KeepsLatched.trans {s t u : State} (h : KeepsLatched s t) (h' : KeepsLatched t u) : KeepsLatched s u :=
  fun p k latched => h' p k (h p k latched)

theorem RaisedInAll.keepsLatched {ks : List Kind} {s t : State} (h : RaisedInAll ks s t) : KeepsLatched s t :=
  fun p k latched => by rw [(h p).2 k, latched, Bool.true_or]

/-- A kind raised is latched. -/
theorem RaisedInAll.latched {ks : List Kind} {s t : State} (h : RaisedInAll ks s t) {k : Kind} (named : k ∈ ks)
    (p : PortId) : kindIn k t.ports[p].latched = true := by
  rw [(h p).2 k, List.contains_iff_mem.mpr named, Bool.or_true]

theorem State.storeSecond_keepsLatched (s : State) (x : Nat) : KeepsLatched s (s.storeSecond x) := by
  have kept : ∀ S d, KeepsLatched s (s.activate S d) := by
    intro S d p k latched
    simpa [State.activate_ports, Port.latch] using .inl latched
  unfold State.storeSecond
  split
  · split
    · exact kept _ _
    · exact .of_ports rfl
  · exact .of_ports rfl

theorem State.takeSecond_keepsLatched (s : State) (x : Nat) : KeepsLatched s (s.takeSecond x) :=
  (KeepsLatched.of_ports (by simp)).trans ((s.supervisorSecond x).storeSecond_keepsLatched x)

theorem State.takeDueSecond_keepsLatched (s : State) : KeepsLatched s s.takeDueSecond := by
  unfold State.takeDueSecond
  split
  · exact s.takeSecond_keepsLatched _
  · exact .of_ports rfl

theorem State.openSlot_keepsLatched (s : State) (e : EpochKey) : KeepsLatched s (s.openSlot e).1 := by
  have claimed : ∀ c, s.claimSlot = some c → KeepsLatched s c.2 := by
    intro c hc
    unfold State.claimSlot at hc
    split at hc
    · cases hc
      exact .of_ports rfl
    · split at hc
      · cases hc
        intro p k latched
        simp only [State.tellOverrun, State.updPorts_ports, Fin.getElem_fin, updateAll_get]
        split
        · simpa [Port.latch] using .inl latched
        · exact latched
      · cases hc
  unfold State.openSlot
  split
  next g c hg hc => exact claimed c hc
  next => exact .of_ports rfl

theorem State.epochBoundary_keepsLatched (s : State) : KeepsLatched s s.epochBoundary := by
  unfold State.epochBoundary
  split
  · split
    · exact (s.openSlot_keepsLatched _).trans (.of_ports (State.expireDeadlines_ports _ _))
    · exact .of_ports rfl
  · exact .of_ports rfl

/-- A step leaves DISCONTINUITY latched, and what was latched (R11, R21). -/
theorem State.stepTo_latched (s : State) (x : Nat) : KeepsLatched s (s.stepTo x) ∧
    ∀ p : PortId, kindIn .discontinuity (s.stepTo x).ports[p].latched = true := by
  have before : KeepsLatched s (s.takeDueSecond.epochBoundary.setLocal x) :=
    (s.takeDueSecond_keepsLatched.trans s.takeDueSecond.epochBoundary_keepsLatched).trans (.of_ports (by simp))
  have raised := (s.takeDueSecond.epochBoundary.setLocal x).raiseDiscontinuity_raises
  have behind : KeepsLatched (s.takeDueSecond.epochBoundary.setLocal x).raiseDiscontinuity (s.stepTo x) :=
    ((KeepsLatched.of_ports (by simp)).trans (State.takeSecond_keepsLatched _ x)).trans
      (State.epochBoundary_keepsLatched _)
  exact ⟨(before.trans raised.keepsLatched).trans behind,
    fun p => behind p .discontinuity (raised.latched List.mem_cons_self p)⟩

/-! ### A step -/

/-- A step takes every deadline up to the new local time (R3, R11, R79). -/
theorem State.stepTo_takes {s : State} (x : Nat) (h : s.table.Laws) (runs : s.timebase.correction.isPause = false) :
    DeadlinesTaken ⟨x, 0⟩ (s.stepTo x).table.slots := by
  have due : s.takeDueSecond.timebase.correction = s.timebase.correction := by rw [State.takeDueSecond_timebase]
  have boundary : s.takeDueSecond.epochBoundary.table.Laws := State.epochBoundary_laws (by rwa [State.takeDueSecond_table])
  have laws : (s.takeDueSecond.epochBoundary.setLocal x).raiseDiscontinuity.table.Laws := boundary.of_same rfl (.inl rfl) rfl rfl
  have expired := State.expireAll_takes (t := ⟨x, 0⟩) (by simp [LocalTime.ofSecond]) (by simpa [due] using runs) laws
  exact State.epochBoundary_takes (by simp [LocalTime.ofSecond]) (by simpa [due] using runs)
    ((State.takeSecond_table _ x).symm ▸ (State.expireDeadlines_keepsLaws _ _).laws laws) (by simpa using expired)

/-- Settles O11: the step of the locked state, in which every deadline passed is taken and every notice is latched. -/
theorem largeErrorSteps : Obligations.LargeErrorSteps := by
  unfold Obligations.LargeErrorSteps
  intro s x t₀ valid set inv large within
  have run := valid.exec_set set
  rw [State.applyError_corrects s x _ (within.imp (by omega) id), State.correct_step _ x _ large] at run
  have settled := s.timebase.acceptance.afterPps_none (e := errorOf x t₀) (by omega)
  obtain ⟨keeps, discontinuity⟩ := (s.lockedForPps x (errorOf x t₀)).stepTo_latched x
  refine ⟨_, run, ?_, ?_, fun p => ⟨discontinuity p, fun change => ?_⟩, ?_⟩
  · ext1 <;> simp [State.lockedForPps]
  · simp [settled, LocalTime.ofSecond]
  · refine keeps p _ ((s.lockedForPps_raises x (errorOf x t₀)).latched ?_ p)
    simp [changeKinds, change]
  · refine State.stepTo_takes x ?_ (by simp [Correction.isPause])
    rw [State.lockedForPps_table]
    exact ((tableInv_iff s).mp inv).1

/-! ### The first valid PPS -/

/-- The state in which the boundaries of the first second are taken: local time set, LOCKED, the mark handed on when a bank
is active (R8, R20). -/
def State.lockedUnset (s : State) (x : Nat) : State :=
  let s1 := ((s.notePps x).setLocal x).lock
  if s1.store.active.isSome then s1.handMark else s1

theorem State.applyUnset_eq (s : State) (x : Nat) :
    (s.notePps x).applyUnset x = ((s.lockedUnset x).takeSecond x).epochBoundary := rfl

theorem State.lockedUnset_raises (s : State) (x : Nat) :
    RaisedInAll (changeKinds s.timebase.state .locked) s (s.lockedUnset x) := by
  have entered : RaisedInAll (changeKinds s.timebase.state .locked) s (((s.notePps x).setLocal x).lock) := by
    intro p
    simpa [State.lock] using State.enterTimeState_raises ((s.notePps x).setLocal x) .locked p
  unfold State.lockedUnset
  dsimp only
  split
  · simpa [RaisedInAll] using entered
  · exact entered

@[simp] theorem State.lockedUnset_store (s : State) (x : Nat) : (s.lockedUnset x).store = s.store := by
  unfold State.lockedUnset
  dsimp only
  split <;> simp

theorem State.lockedUnset_timebase (s : State) (x : Nat) : (s.lockedUnset x).timebase =
    { lockedBy x s.timebase with localTime := some (.ofSecond x) } := by
  unfold State.lockedUnset
  dsimp only
  split <;> simp [lockedBy]

theorem State.lockedUnset_table (s : State) (x : Nat) :
    (s.lockedUnset x).table = { s.table with mark := s.table.mark || s.store.active.isSome } := by
  unfold State.lockedUnset
  dsimp only
  split
  next h => simp at h; simp [h]
  next h => simp at h; simp [h]

/-- A second boundary with no switch pending is the supervisor's work (R17, R104). -/
theorem State.takeSecond_noSwitch {s : State} (none : s.store.pendingSwitch = none) (x : Nat) :
    (s.takeSecond x).ports = s.ports ∧ (s.takeSecond x).store = s.store := by
  have e : (s.supervisorSecond x).storeSecond x = s.supervisorSecond x := by
    unfold State.storeSecond
    rw [State.supervisorSecond_store, none]
  unfold State.takeSecond
  simp [e]

/-- With no active bank there is no epoch and nothing opens (R18). -/
theorem State.epochBoundary_inactive {s : State} (none : s.store.active = none) : s.epochBoundary = s := by
  have current : s.currentEpoch = .none := by
    unfold State.currentEpoch
    split
    · rfl
    · simp [ProfileStore.governingBank, ProfileStore.governing_none _ _ none]
  unfold State.epochBoundary
  rw [current]

/-- The boundary of the first epoch, taken LOCKED with the mark handed on: the table has the one slot of (x, 0), with
discontinuity and class 0 (R18, R20, R70). -/
theorem State.epochBoundary_first {s : State} {x : Nat} {a : BankId} {g : Generation}
    (set : s.timebase.localTime = some (.ofSecond x)) (governs : s.store.governing x = some (a, g))
    (locked : s.timebase.state = .locked) (noSlots : s.table.slots = []) (noHorizon : s.table.horizon = none)
    (mark : s.table.mark = true) : s.epochBoundary.ports = s.ports ∧
      s.epochBoundary.table.horizon = some ⟨x, 0⟩ ∧ s.epochBoundary.table.mark = false ∧
      ∃ sl, s.epochBoundary.table.slots = [sl] ∧ sl.key = ⟨x, 0⟩ ∧ sl.bank = a ∧ sl.generation = g ∧
        sl.discontinuity = true ∧ sl.timeClass = 0 := by
  obtain ⟨n, evolves, ports⟩ := State.epochBoundary_opens (State.currentEpoch_ofSecond set governs) governs
    (by simp [noHorizon, opens]) (by simp [noSlots])
  refine ⟨ports, evolves.horizon, evolves.mark, ?_⟩
  have slots := evolves.slots
  rw [AlignTable.opened, noSlots] at slots
  obtain ⟨sl, rest, first, last, whole⟩ := List.forall₂_cons_left_iff.mp slots
  obtain rfl := List.forall₂_nil_left_iff.mp last
  refine ⟨sl, whole, ?_⟩
  rw [first.1]
  exact ⟨rfl, rfl, rfl, by simp [State.newSlot, AlignTable.discontinuityFor, mark],
    by simp [State.newSlot, locked, TimeState.timeClass]⟩

/-- Settles O9: the first valid PPS locks, and the boundaries of its second open the first slot when a bank is active. -/
theorem firstValidPpsSetsTime : Obligations.FirstValidPpsSetsTime := by
  unfold Obligations.FirstValidPpsSetsTime
  intro s x valid unset state noSwitch noDraining noSlots noHorizon
  obtain ⟨ports, store⟩ := State.takeSecond_noSwitch (s := s.lockedUnset x) (by simpa using noSwitch) x
  rw [State.lockedUnset_store] at store
  have raised := s.lockedUnset_raises x
  rw [state] at raised
  have applied := s.applyUnset_eq x
  refine ⟨_, valid.exec_unset unset, ?_, by simp [lockedBy, LocalTime.ofSecond], ?_⟩
  · have kept : ((s.notePps x).applyUnset x).store = s.store := by rw [applied, State.epochBoundary_store, store]
    ext1 <;> simp [kept]
  cases active : s.store.active with
  | none =>
    rw [applied, State.epochBoundary_inactive (by rw [store, active])]
    refine ⟨?_, fun _ => by simp [State.lockedUnset_table, active], fun a ha => by cases ha⟩
    simpa [RaisedInAll, ports, changeKinds] using raised
  | some a =>
    obtain ⟨samePorts, first⟩ := State.epochBoundary_first (s := (s.lockedUnset x).takeSecond x) (x := x) (a := a)
      (g := s.store.generation) (by simp [State.lockedUnset_timebase])
      (by rw [store]; exact s.store.governing_active x a active noSwitch noDraining)
      (by simp [State.lockedUnset_timebase, lockedBy]) (by simp [State.lockedUnset_table, noSlots])
      (by simp [State.lockedUnset_table, noHorizon]) (by simp [State.lockedUnset_table, active])
    rw [applied]
    refine ⟨?_, fun none => (by cases none), fun b hb => ?_⟩
    · simpa [RaisedInAll, samePorts, ports, changeKinds] using raised
    · cases hb
      exact first

end Sys2Proof.Machine
end

section
/-! PROOFS. The timers of the timebase, and the step on an empty queue (R1 to R3, R5, R10, R12, R16, R21). -/

namespace Sys2Proof.Machine

/-! ### When the idle part raises an event -/

@[simp] theorem mem_dueIf {b : Bool} {c d : Instr} : c ∈ dueIf b d ↔ b = true ∧ c = d := by
  cases b <;> simp [dueIf]

theorem State.timerDue_iff (s : State) (timer : Option Nat) :
    s.timerDue timer = true ↔ ∃ d, timer = some d ∧ d ≤ s.timebase.elapsed := by
  cases timer <;> simp [State.timerDue]

theorem State.expired_iff (s : State) (i : Instant) : s.expired i = true ↔
    ∃ t, s.timebase.localTime = some t ∧ s.timebase.correction.isPause = false ∧ i.reached t = true := by
  unfold State.expired
  cases s.timebase.localTime <;> simp

theorem Rx.gapPast_iff (rx : Rx) (limit now : Nat) :
    rx.gapPast limit now = true ↔ ∃ got last, rx = .receiving got last ∧ last + limit < now := by
  cases rx with
  | hunting => simp [Rx.gapPast]
  | receiving got last =>
    simp only [Rx.gapPast, decide_eq_true_eq, Rx.receiving.injEq]
    constructor
    · exact fun past => ⟨got, last, ⟨rfl, rfl⟩, by omega⟩
    · rintro ⟨_, _, ⟨rfl, rfl⟩, past⟩
      omega

theorem State.secondDue_isSome (s : State) : s.secondDue.isSome = true ↔
    ∃ t, s.timebase.localTime = some t ∧ s.timebase.correction.isPause = false ∧
      s.timebase.lastSecondEvent ≠ some t.second := by
  unfold State.secondDue
  cases s.timebase.localTime with
  | none => simp
  | some t => cases s.timebase.correction.isPause <;> simp

theorem opens_iff (horizon : Option EpochKey) (c : EpochKey) :
    opens horizon c = true ↔ ∀ h, horizon = some h → EpochKey.older h c := by
  cases horizon <;> simp [opens]

theorem State.epochDue_iff (s : State) : s.epochDue = true ↔
    ∃ c, s.currentEpoch = some c ∧ s.timebase.correction.isPause = false ∧
      ∀ h, s.table.horizon = some h → EpochKey.older h c := by
  unfold State.epochDue
  cases s.currentEpoch <;> simp [opens_iff]

theorem AlignTable.nonClosed_eq_zero (t : AlignTable) (g : Generation) :
    t.nonClosed g = 0 ↔ ∀ sl ∈ t.slots, sl.generation = g → sl.state = .closed := by
  simp [AlignTable.nonClosed, List.countP_eq_zero]

/-- The arbiter finds an item when some lane holds one (R30). -/
theorem State.nextItem_isSome (s : State) : s.nextItem.isSome = true ↔ ∃ l : LaneId, s.lanes[l].queue ≠ [] := by
  have whole : ∀ p l : LaneId, l ∈ [p, p + 1, p + 2, p + 3] := by decide
  have found : ∀ l : LaneId, (match s.lanes[l].queue with
      | [] => none
      | item :: rest => some (l, item, rest)).isSome = true ↔ s.lanes[l].queue ≠ [] := by
    intro l
    cases s.lanes[l].queue <;> simp
  unfold State.nextItem
  rw [List.findSome?_isSome_iff]
  constructor
  · rintro ⟨l, -, some⟩
    exact ⟨l, (found l).mp some⟩
  · rintro ⟨l, waits⟩
    exact ⟨l, whole _ l, (found l).mpr waits⟩

/-- The slew in progress has run its time (R10). -/
theorem State.slewDue_iff (s : State) : s.timerDue s.timebase.correction.slewEnds = true ↔
    ∃ e start, s.timebase.correction = .slew e start ∧ start + 100000000 ≤ s.timebase.elapsed := by
  cases s.timebase.correction <;> simp [State.timerDue_iff, Correction.slewEnds, slewTime, elapsedSecond]

/-- The pause in progress has run out (R12). -/
theorem State.pauseDue_iff (s : State) : s.timerDue s.timebase.correction.pauseEnds = true ↔
    ∃ ends, s.timebase.correction = .pause ends ∧ ends ≤ s.timebase.elapsed := by
  cases s.timebase.correction <;> simp [State.timerDue_iff, Correction.pauseEnds]

/-! ### The groups of due events -/

section
variable {s : State} {c : Instr}

theorem mem_dueTimebase : c ∈ s.dueTimebase ↔
    ((∃ d, s.timebase.lossTimer = some d ∧ d ≤ s.timebase.elapsed) ∧ c = .ppsLossTimerExpiry) ∨
    ((∃ d, s.timebase.holdoverTimer = some d ∧ d ≤ s.timebase.elapsed) ∧ c = .holdoverLimitExpiry) ∨
    ((∃ e start, s.timebase.correction = .slew e start ∧ start + 100000000 ≤ s.timebase.elapsed) ∧ c = .slewEnd) ∨
    ((∃ ends, s.timebase.correction = .pause ends ∧ ends ≤ s.timebase.elapsed) ∧ c = .pauseEnd) := by
  simp only [State.dueTimebase, List.mem_append, mem_dueIf, State.slewDue_iff, State.pauseDue_iff, or_assoc]
  simp only [State.timerDue_iff]

theorem mem_dueTimers : c ∈ s.dueTimers ↔
    (∃ l ∈ allLanes, (∃ d, s.lanes[l].silenceTimer = some d ∧ d ≤ s.timebase.elapsed) ∧
      c = .laneSilenceTimerExpiry l) ∨
    (∃ i ∈ allStreams,
      ((∃ d, s.supervisor.streams[i].silenceTimer = some d ∧ d ≤ s.timebase.elapsed) ∧
        c = .streamSilenceTimerExpiry i) ∨
      ((∃ d, s.supervisor.streams[i].quietTimer = some d ∧ d ≤ s.timebase.elapsed) ∧ c = .quietTimerExpiry i) ∨
      ((∃ d, s.relay.slots[i].map CommandSlot.timeout = some d ∧ d ≤ s.timebase.elapsed) ∧ c = .commandTimeout i)) ∨
    ((∃ d, s.store.claim.map Claim.expires = some d ∧ d ≤ s.timebase.elapsed) ∧ c = .claimTimerExpiry) := by
  simp only [State.dueTimers, List.mem_append, List.mem_flatMap, mem_dueIf, State.timerDue_iff, or_assoc]

theorem mem_dueGaps : c ∈ s.dueGaps ↔
    ((∃ got last, s.timebase.rx = .receiving got last ∧ last + timeGapTime < s.timebase.elapsed) ∧
      c = .timeMessage []) ∨
    (∃ l ∈ allLanes, (∃ got last, s.lanes[l].rx = .receiving got last ∧ last + laneGapTime < s.timebase.elapsed) ∧
      c = .laneFrameArrival l []) ∨
    (∃ p ∈ allPorts, (∃ got last, s.ports[p].rx = .receiving got last ∧ last + requestGapTime < s.timebase.elapsed) ∧
      c = .requestFrameArrival p []) := by
  simp only [State.dueGaps, List.mem_append, List.mem_flatMap, mem_dueIf, Rx.gapPast_iff, or_assoc]

theorem mem_dueDeadlines : c ∈ s.dueDeadlines ↔ ∃ sl ∈ s.table.slots,
    ((s.expired sl.fastDeadline = true ∧ sl.fastCut = none ∧ sl.fastReady = none) ∧ c = .fastDeadlineExpiry sl.key) ∨
    ((s.expired sl.fullDeadline = true ∧ (sl.fastCut = none ∨ sl.fullCut = none) ∧ sl.fullReady = none) ∧
      c = .fullDeadlineExpiry sl.key) := by
  simp only [State.dueDeadlines, List.mem_append, List.mem_flatMap, mem_dueIf, Bool.and_eq_true, and_assoc, beq_iff_eq,
    bne_iff_ne, Option.isNone_iff_eq_none, Slot.state_opened, Ne, Slot.state_closed, not_and_or, Bool.not_eq_true,
    Option.isSome_eq_false_iff]

theorem mem_dueBoundaries : c ∈ s.dueBoundaries ↔
    ((∃ t, s.timebase.localTime = some t ∧ s.timebase.correction.isPause = false ∧
      s.timebase.lastSecondEvent ≠ some t.second) ∧ c = .secondBoundary) ∨
    ((∃ e, s.currentEpoch = some e ∧ s.timebase.correction.isPause = false ∧
      ∀ h, s.table.horizon = some h → EpochKey.older h e) ∧ c = .epochBoundary) := by
  simp only [State.dueBoundaries, List.mem_append, mem_dueIf, State.secondDue_isSome, State.epochDue_iff]

theorem mem_dueDraining : c ∈ s.dueDraining ↔
    (∃ d, s.store.draining = some d ∧ ∀ sl ∈ s.table.slots, sl.generation = d.generation → sl.state = .closed) ∧
      c = .drainingEnd := by
  unfold State.dueDraining
  cases s.store.draining <;> simp [AlignTable.nonClosed_eq_zero]

theorem mem_dueIntake : c ∈ s.dueIntake ↔
    ((∃ r, s.arbiter.handling = some r) ∧ c = .tableTakeRecord) ∨
    ((s.arbiter.handling = none ∧ ∃ l : LaneId, s.lanes[l].queue ≠ []) ∧ c = .arbiterTake) := by
  unfold State.dueIntake
  cases s.arbiter.handling <;> simp [State.nextItem_isSome]

theorem mem_dueRequests : c ∈ s.dueRequests ↔ ∃ p : PortId, s.ports[p].handler = .inHand c := by
  simp only [State.dueRequests, List.mem_flatMap, allPorts, List.mem_finRange, true_and]
  refine exists_congr fun p => ?_
  cases s.ports[p].handler <;> simp [eq_comm]

/-- The idle part of an operating part raises the events of the eight groups. -/
theorem State.mem_dueEvents_groups (on : s.operating = true) : c ∈ s.dueEvents ↔
    c ∈ s.dueTimebase ∨ c ∈ s.dueTimers ∨ c ∈ s.dueGaps ∨ c ∈ s.dueDeadlines ∨ c ∈ s.dueBoundaries ∨
      c ∈ s.dueDraining ∨ c ∈ s.dueIntake ∨ c ∈ s.dueRequests := by
  unfold State.dueEvents
  rw [if_pos on]
  simp only [List.mem_append, or_assoc]

/-! ### What is raised is due, and what is due is raised -/

theorem due_of_mem_dueTimebase (h : c ∈ s.dueTimebase) : Due s c := by
  obtain ⟨⟨d, set, past⟩, rfl⟩ | ⟨⟨d, set, past⟩, rfl⟩ | ⟨⟨e, start, slews, past⟩, rfl⟩ | ⟨⟨ends, pauses, past⟩, rfl⟩ :=
    mem_dueTimebase.mp h
  · exact .ppsLoss d set past
  · exact .holdover d set past
  · exact .slew e start slews past
  · exact .pause ends pauses past

theorem due_of_mem_dueTimers (h : c ∈ s.dueTimers) : Due s c := by
  obtain ⟨l, -, ⟨d, set, past⟩, rfl⟩ |
    ⟨i, -, ⟨⟨d, set, past⟩, rfl⟩ | ⟨⟨d, set, past⟩, rfl⟩ | ⟨⟨d, set, past⟩, rfl⟩⟩ |
    ⟨⟨d, set, past⟩, rfl⟩ := mem_dueTimers.mp h
  · exact .laneSilence l d set past
  · exact .streamSilence i d set past
  · exact .quiet i d set past
  · obtain ⟨k, slot, rfl⟩ := Option.map_eq_some_iff.mp set
    exact .timeout i k slot past
  · obtain ⟨k, claim, rfl⟩ := Option.map_eq_some_iff.mp set
    exact .claim k claim past

theorem due_of_mem_dueGaps (h : c ∈ s.dueGaps) : Due s c := by
  obtain ⟨⟨got, last, rx, past⟩, rfl⟩ | ⟨l, -, ⟨got, last, rx, past⟩, rfl⟩ | ⟨p, -, ⟨got, last, rx, past⟩, rfl⟩ :=
    mem_dueGaps.mp h
  · exact .timeGap got last rx past
  · exact .laneGap l got last rx past
  · exact .portGap p got last rx past

theorem due_of_mem_dueDeadlines (h : c ∈ s.dueDeadlines) : Due s c := by
  obtain ⟨sl, mem, ⟨⟨expired, cut, ready⟩, rfl⟩ | ⟨⟨expired, cut, ready⟩, rfl⟩⟩ := mem_dueDeadlines.mp h
  · obtain ⟨t, set, runs, past⟩ := (s.expired_iff _).mp expired
    exact .fastDeadline t sl set runs mem past cut ready
  · obtain ⟨t, set, runs, past⟩ := (s.expired_iff _).mp expired
    exact .fullDeadline t sl set runs mem past cut ready

/-- The idle part raises the events that are due, and no other. -/
theorem State.mem_dueEvents (on : s.operating = true) : c ∈ s.dueEvents ↔ Due s c := by
  rw [State.mem_dueEvents_groups on]
  constructor
  · rintro (h | h | h | h | h | h | h | h)
    · exact due_of_mem_dueTimebase h
    · exact due_of_mem_dueTimers h
    · exact due_of_mem_dueGaps h
    · exact due_of_mem_dueDeadlines h
    · obtain ⟨⟨t, set, runs, fresh⟩, rfl⟩ | ⟨⟨e, current, runs, fresh⟩, rfl⟩ := mem_dueBoundaries.mp h
      · exact .second t set runs fresh
      · exact .epoch e current runs fresh
    · obtain ⟨⟨d, draining, drained⟩, rfl⟩ := mem_dueDraining.mp h
      exact .draining d draining drained
    · obtain ⟨⟨r, handling⟩, rfl⟩ | ⟨⟨handling, l, waits⟩, rfl⟩ := mem_dueIntake.mp h
      · exact .take r handling
      · exact .serve l handling waits
    · obtain ⟨p, hand⟩ := mem_dueRequests.mp h
      exact .request p c hand
  · rw [mem_dueTimebase, mem_dueTimers, mem_dueGaps, mem_dueDeadlines, mem_dueBoundaries, mem_dueDraining, mem_dueIntake,
      mem_dueRequests]
    rintro (⟨d, h, past⟩ | ⟨d, h, past⟩ | ⟨e, start, h, past⟩ | ⟨ends, h, past⟩ | ⟨l, d, h, past⟩ | ⟨i, d, h, past⟩ |
      ⟨i, d, h, past⟩ | ⟨i, k, h, past⟩ | ⟨k, h, past⟩ | ⟨got, last, h, past⟩ | ⟨l, got, last, h, past⟩ |
      ⟨p, got, last, h, past⟩ | ⟨t, sl, h, runs, mem, past, cut, ready⟩ | ⟨t, sl, h, runs, mem, past, cut, ready⟩ |
      ⟨t, h, runs, fresh⟩ | ⟨e, h, runs, fresh⟩ | ⟨d, h, drained⟩ | ⟨r, h⟩ | ⟨l, h, waits⟩ | ⟨p, k, h⟩)
    case ppsLoss => exact .inl (.inl ⟨⟨d, h, past⟩, rfl⟩)
    case holdover => exact .inl (.inr (.inl ⟨⟨d, h, past⟩, rfl⟩))
    case slew => exact .inl (.inr (.inr (.inl ⟨⟨e, start, h, past⟩, rfl⟩)))
    case pause => exact .inl (.inr (.inr (.inr ⟨⟨ends, h, past⟩, rfl⟩)))
    case laneSilence => exact .inr (.inl (.inl ⟨l, List.mem_finRange l, ⟨d, h, past⟩, rfl⟩))
    case streamSilence => exact .inr (.inl (.inr (.inl ⟨i, List.mem_finRange i, .inl ⟨⟨d, h, past⟩, rfl⟩⟩)))
    case quiet => exact .inr (.inl (.inr (.inl ⟨i, List.mem_finRange i, .inr (.inl ⟨⟨d, h, past⟩, rfl⟩)⟩)))
    case timeout =>
      exact .inr (.inl (.inr (.inl ⟨i, List.mem_finRange i, .inr (.inr ⟨⟨k.timeout, by simp [h], past⟩, rfl⟩)⟩)))
    case claim => exact .inr (.inl (.inr (.inr ⟨⟨k.expires, by simp [h], past⟩, rfl⟩)))
    case timeGap => exact .inr (.inr (.inl (.inl ⟨⟨got, last, h, past⟩, rfl⟩)))
    case laneGap => exact .inr (.inr (.inl (.inr (.inl ⟨l, List.mem_finRange l, ⟨got, last, h, past⟩, rfl⟩))))
    case portGap => exact .inr (.inr (.inl (.inr (.inr ⟨p, List.mem_finRange p, ⟨got, last, h, past⟩, rfl⟩))))
    case fastDeadline =>
      exact .inr (.inr (.inr (.inl ⟨sl, mem, .inl ⟨⟨(s.expired_iff _).mpr ⟨t, h, runs, past⟩, cut, ready⟩, rfl⟩⟩)))
    case fullDeadline =>
      exact .inr (.inr (.inr (.inl ⟨sl, mem, .inr ⟨⟨(s.expired_iff _).mpr ⟨t, h, runs, past⟩, cut, ready⟩, rfl⟩⟩)))
    case second => exact .inr (.inr (.inr (.inr (.inl (.inl ⟨⟨t, h, runs, fresh⟩, rfl⟩)))))
    case epoch => exact .inr (.inr (.inr (.inr (.inl (.inr ⟨⟨e, h, runs, fresh⟩, rfl⟩)))))
    case draining => exact .inr (.inr (.inr (.inr (.inr (.inl ⟨⟨d, h, drained⟩, rfl⟩)))))
    case take => exact .inr (.inr (.inr (.inr (.inr (.inr (.inl (.inl ⟨⟨r, h⟩, rfl⟩)))))))
    case serve => exact .inr (.inr (.inr (.inr (.inr (.inr (.inl (.inr ⟨⟨h, l, waits⟩, rfl⟩)))))))
    case request => exact .inr (.inr (.inr (.inr (.inr (.inr (.inr ⟨p, h⟩))))))

end

/-! ### The step on an empty queue -/

/-- With events due, the idle part queues them (R1). -/
theorem State.idle_due {s : State} (on : s.operating = true) (due : ∃ c, Due s c) :
    s.idle = { s with pending := s.dueEvents } := by
  obtain ⟨c, due⟩ := due
  have mem := (State.mem_dueEvents on).mpr due
  unfold State.idle
  cases e : s.dueEvents with
  | nil => rw [e] at mem; cases mem
  | cons d ds => rfl

/-- With none due, one oscillator period passes (R1). -/
theorem State.idle_quiet {s : State} (on : s.operating = true) (quiet : ∀ c, ¬ Due s c) : s.idle = s.tick := by
  have none : s.dueEvents = [] :=
    List.eq_nil_iff_forall_not_mem.mpr fun c mem => quiet c ((State.mem_dueEvents on).mp mem)
  unfold State.idle
  rw [none]
  exact State.whileOperating_on on _

/-- The advance of the model is the one of the statements (R2, R10, R12). -/
theorem Correction.advance_eq (c : Correction) (now : Nat) : c.advance now = periodAdvance c now := by
  cases c <;> rfl

/-- Elapsed time goes up by one within its 64 bits (R1). -/
theorem elapsedPlusOne_eq {n : Nat} (within : n + 1 < 2 ^ 64) : elapsedPlusOne n = n + 1 := if_pos within

/-- Settles O14: the four timers, and the step on an empty queue. -/
theorem timebaseTimersExpire : Obligations.TimebaseTimersExpire := by
  unfold Obligations.TimebaseTimersExpire
  intro s on
  have fires : ∀ {timer : Option Nat} {d : Nat}, timer = some d → d ≤ s.timebase.elapsed → s.timerDue timer = true :=
    fun set past => (s.timerDue_iff _).mpr ⟨_, set, past⟩
  refine ⟨fun empty => ⟨fun due => ?_, fun quiet within => ?_⟩, fun d state set past => ?_, fun d state set past => ?_,
    fun e start correction past => ?_, fun ends t₀ correction past set inv => ?_⟩
  · have run : step s = .next s.idle := by rw [step, empty]
    rw [State.idle_due on due] at run
    exact ⟨_, run, rfl, fun c => State.mem_dueEvents on⟩
  · have run : step s = .next s.idle := by rw [step, empty]
    rw [State.idle_quiet on quiet] at run
    refine ⟨_, run, by simp [State.tick, elapsedPlusOne_eq within], fun none => by simp [State.tick, none],
      fun t₀ set => ?_⟩
    obtain ⟨ns, value⟩ := LocalTime.ofNs_spec (t₀.toNs + periodAdvance s.timebase.correction (s.timebase.elapsed + 1))
    refine ⟨_, ?_, ns, value⟩
    simp [State.tick, set, LocalTime.advance, Correction.advance_eq, elapsedPlusOne_eq within]
  · have run : exec .ppsLossTimerExpiry s = .next s.ppsLoss := congrArg _ (State.whileOperating_on on _)
    refine ⟨_, run, ?_⟩
    unfold State.ppsLoss
    rw [if_pos (fires set past)]
    refine ⟨by ext1 <;> simp, by simp [State.after, holdoverTime, elapsedSecond], ?_⟩
    simpa [RaisedInAll, state, changeKinds] using s.enterTimeState_raises .holdover
  · have run : exec .holdoverLimitExpiry s = .next s.holdoverEnd := congrArg _ (State.whileOperating_on on _)
    refine ⟨_, run, ?_⟩
    unfold State.holdoverEnd
    rw [if_pos (fires set past)]
    refine ⟨by ext1 <;> simp, by simp, ?_⟩
    simpa [RaisedInAll, state, changeKinds] using s.enterTimeState_raises .drifting
  · have run : exec .slewEnd s = .next s.slewEnd := congrArg _ (State.whileOperating_on on _)
    rw [run, State.slewEnd, if_pos (fires (d := start + 100000000) (by rw [correction]; rfl) past)]
    rfl
  · have run : exec .pauseEnd s = .next s.pauseEnd := congrArg _ (State.whileOperating_on on _)
    refine ⟨_, run, ?_⟩
    unfold State.pauseEnd
    rw [if_pos (fires (d := ends) (by rw [correction]; rfl) past)]
    refine ⟨by ext1 <;> simp, by simp, ?_⟩
    exact State.expireAll_takes (by simpa using set) (by simp [Correction.isPause])
      (by simpa using ((tableInv_iff s).mp inv).1)

end Sys2Proof.Machine
end

section
/-! PROOFS. Openings by an epoch boundary and by a placed record (R18, R61, R63 to R70, R72). -/

namespace Sys2Proof.Machine

/-! ### The new slot is the slot of the rules -/

theorem Health.expected_iff (h : Health) : h.expected = true ↔ h = .awaiting ∨ h = .live ∨ h = .lagging := by
  cases h <;> simp [Health.expected]

theorem Bank.onGrid_iff (b : Bank) (i : StreamId) (k : Nat) :
    b.onGrid i k = true ↔ (b.streamRate i < b.rate → k % (b.rate / b.streamRate i) = 0) := by
  unfold Bank.onGrid
  split <;> simp [*]

theorem State.mem_expectedSet (s : State) (b : BankId) (k : Nat) (i : StreamId) : i ∈ s.expectedSet b k ↔
    (s.store.bank b).enabled i = true ∧
      ((s.store.bank b).streamRate i < (s.store.bank b).rate →
        k % ((s.store.bank b).rate / (s.store.bank b).streamRate i) = 0) ∧
      (Supervised s.store b i → s.supervisor.streams[i].health = .awaiting ∨ s.supervisor.streams[i].health = .live ∨
        s.supervisor.streams[i].health = .lagging) := by
  have health : (s.openingHealth b i).expected = true ↔ (Supervised s.store b i →
      s.supervisor.streams[i].health = .awaiting ∨ s.supervisor.streams[i].health = .live ∨
        s.supervisor.streams[i].health = .lagging) := by
    rw [Health.expected_iff, State.openingHealth, ← ProfileStore.supervised_iff]
    cases s.store.supervised b i <;> simp
  simp only [State.expectedSet, List.mem_filter, allStreams, List.mem_finRange, true_and, Bool.and_eq_true, and_assoc,
    health, Bank.onGrid_iff]

theorem State.mem_gatingSet (s : State) (b : BankId) (k : Nat) (i : StreamId) : i ∈ s.gatingSet b k ↔
    i ∈ s.expectedSet b k ∧ (s.store.bank b).gating i = true ∧
      (Supervised s.store b i → s.supervisor.streams[i].health ≠ .lagging) := by
  have health : s.openingHealth b i ≠ .lagging ↔
      (Supervised s.store b i → s.supervisor.streams[i].health ≠ .lagging) := by
    rw [State.openingHealth, ← ProfileStore.supervised_iff]
    cases s.store.supervised b i <;> simp
  simp only [State.gatingSet, List.mem_filter, Bool.and_eq_true, bne_iff_ne, health]

theorem State.expectedSet_nodup (s : State) (b : BankId) (k : Nat) : (s.expectedSet b k).Nodup := by
  unfold State.expectedSet
  exact (List.nodup_finRange 48).filter _

theorem State.gatingSet_nodup (s : State) (b : BankId) (k : Nat) : (s.gatingSet b k).Nodup := by
  unfold State.gatingSet
  exact (s.expectedSet_nodup b k).filter _

/-- An instant is reached when local time, scaled by its rate, has come up to it (R70). -/
theorem deadlineOf_reached (rate wait : Nat) (e : EpochKey) (t : LocalTime) : (deadlineOf rate wait e).reached t = true ↔
    (e.second * 1000000000 + wait * 1000000) * rate + e.index * 1000000000
      ≤ (t.second * 1000000000 + t.ns) * rate := by
  rw [Instant.reached, decide_eq_true_iff]
  exact Iff.rfl

/-- An opening makes the slot that R61 and R67 to R70 give. -/
theorem State.newSlot_opened (s : State) (n : Fin 512) (e : EpochKey) (b : BankId) (g : Generation) :
    OpenedSlot s e b g (s.newSlot n e b g) := by
  refine ⟨⟨rfl, rfl, rfl⟩, ⟨?_, ?_, ?_⟩, fun i => ⟨?_, s.mem_expectedSet b e.index i, s.mem_gatingSet b e.index i⟩,
    fun t => ⟨deadlineOf_reached _ _ e t, deadlineOf_reached _ _ e t⟩, ?_, rfl⟩
  · exact (List.nodup_finRange 48).filter _
  · exact s.expectedSet_nodup b e.index
  · exact s.gatingSet_nodup b e.index
  · simp [State.newSlot, allStreams]
  · refine ⟨fun h => ?_, fun h => ?_, fun h => ?_, fun h => ?_⟩ <;> simp [State.newSlot, h, TimeState.timeClass]

theorem State.newSlot_entries (s : State) (n : Fin 512) (e : EpochKey) (b : BankId) (g : Generation) (i : StreamId) :
    (s.newSlot n e b g).entries[i] = none := by
  simp [State.newSlot]

/-- Slot `b` is slot `a` but for its entries, its readiness and its cuts. -/
def Slot.SameOpening (a b : Slot) : Prop :=
  b = { a with
    entries := b.entries, fastReady := b.fastReady, fullReady := b.fullReady, fastCut := b.fastCut, fullCut := b.fullCut }

theorem Slot.Evolves.sameOpening {a b : Slot} (h : a.Evolves b) : a.SameOpening b := by
  rw [Slot.SameOpening, h.1]

theorem Slot.store_sameOpening (r : PlacedRecord) (sl : Slot) : sl.SameOpening (sl.store r) := by
  simp [Slot.SameOpening, Slot.store, Slot.judge]

/-- What an opening made of a slot stands while its entries, its readiness and its cuts change. -/
theorem OpenedSlot.of_same {s : State} {e : EpochKey} {b : BankId} {g : Generation} {x y : Slot}
    (h : OpenedSlot s e b g x) (same : x.SameOpening y) : OpenedSlot s e b g y := by
  rw [same]
  exact h

/-! ### The record stored in the slot it opens -/

theorem Slot.store_entries (r : PlacedRecord) (sl : Slot) (opened : sl.state = .opened) :
    (sl.store r).entries = update sl.entries r.stream fun _ => some (r.entry false) := by
  have onTime : (SlotState.opened == .fastCut) = false := rfl
  simp [Slot.store, Slot.judge, opened, onTime]

theorem Slot.store_key (r : PlacedRecord) (sl : Slot) : (sl.store r).key = sl.key := by
  rw [sl.store_sameOpening r]

/-- A slot just opened is alone in its epoch, and changes by itself. -/
theorem AlignTable.modify_opened (t : AlignTable) (sl : Slot) (f : Slot → Slot) (new : ∀ o ∈ t.slots, o.key ≠ sl.key) :
    (t.opened sl).modify sl.key f = { t.opened sl with slots := t.slots ++ [f sl] } := by
  have old : t.slots.map (fun o => if o.key = sl.key then f o else o) = t.slots := by
    refine (List.map_congr_left fun o ho => if_neg (new o ho)).trans (List.map_id' _)
  simp [AlignTable.modify, AlignTable.opened, old]

/-- The table of an opening by a record: the record stored in the new slot, the rest evolved (R65, R72). -/
def AlignTable.openedWith (t : AlignTable) (sl : Slot) (r : PlacedRecord) : AlignTable :=
  { t.opened sl with slots := t.slots ++ [sl.store r] }

/-- A record that opens slot `sl` behind table `t` is stored in it, and its handling ends: the table is evolved from
that, and besides it the supervisor alone changes (R65, R71, R72). -/
theorem State.tableTake_opens {s : State} {r : PlacedRecord} {t : AlignTable} {sl : Slot} {es : List EpochKey}
    (handling : s.arbiter.handling = some r)
    (taken : s.takeRecord r = ((({ s with table := t.opened sl } : State).storeRecord r).expireDeadlines es, .stored))
    (key : sl.key = r.key) (new : ∀ o ∈ t.slots, o.key ≠ r.key) :
    s.tableTake = { s with
      table := s.tableTake.table
      supervisor := s.tableTake.supervisor
      arbiter := { s.arbiter with handling := none } } ∧
    (t.openedWith sl r).Evolves s.tableTake.table := by
  have evolves : (t.openedWith sl r).Evolves
      ((({ s with table := t.opened sl } : State).storeRecord r).expireDeadlines es).table := by
    refine AlignTable.Evolves.trans ?_ (State.expireDeadlines_evolves _ es)
    have stored := State.releasePass_evolves ({ s with table := (t.opened sl).modify r.key (Slot.store r) } : State)
    rw [← key, t.modify_opened sl _ (key ▸ new)] at stored
    rw [State.storeRecord, ← key, t.modify_opened sl _ (key ▸ new)]
    exact stored
  unfold State.tableTake
  simp only [handling, taken]
  split
  · exact ⟨by ext1 <;> simp, by simpa using evolves⟩
  · exact ⟨by ext1 <;> simp, evolves⟩

/-- The slot that a record opened holds that record and no other entry (R65, R72). -/
theorem AlignTable.Evolves.opened_slot {s : State} {t u : AlignTable} {r : PlacedRecord} {n : Fin 512} {g : Generation}
    (h : (t.openedWith (s.newSlot n r.key r.bank g) r).Evolves u) :
    ∃ sl ∈ u.slots, OpenedSlot s r.key r.bank g sl ∧ sl.entries[r.stream] = some (r.entry false) ∧
      ∀ i : StreamId, i ≠ r.stream → sl.entries[i] = none := by
  obtain ⟨sl, mem, evolves⟩ := h.forward (List.mem_append_right _ (List.mem_singleton_self _))
  have opened := s.newSlot_opened n r.key r.bank g
  refine ⟨sl, mem, (opened.of_same (Slot.store_sameOpening r _)).of_same evolves.sameOpening, ?_⟩
  rw [evolves.entries, Slot.store_entries r _ (by rw [Slot.state_opened]; rfl)]
  exact ⟨by simp, fun i other => by
    simpa [update_get_ne _ _ other] using s.newSlot_entries n r.key r.bank g i⟩

/-! ### The epochs a record opens -/

theorem EpochKey.not_older_self (e : EpochKey) : ¬ EpochKey.older e e := by omega

/-- The current epoch under the bank that governs the second of local time (R18). -/
theorem State.currentEpoch_governed {s : State} {t₀ : LocalTime} {b : BankId} {g : Generation}
    (set : s.timebase.localTime = some t₀) (governs : s.store.governing t₀.second = some (b, g)) :
    s.currentEpoch = some ⟨t₀.second, t₀.ns * (s.store.bank b).rate / 1000000000⟩ := by
  simp [State.currentEpoch, set, ProfileStore.governingBank, governs, epochAt, nsPerSecond]

/-- The epoch after an epoch, where there is one (R53). -/
theorem State.epochAfter_eq {s : State} {c n : EpochKey} {b : BankId} {g : Generation}
    (governs : s.store.governing c.second = some (b, g)) (next_ : NextEpoch (s.store.bank b).rate c n) :
    s.epochAfter c = some n := by
  unfold NextEpoch at next_
  unfold State.epochAfter
  rw [ProfileStore.governingBank, governs]
  dsimp only [Option.map_some]
  split at next_
  next inside => rw [if_pos inside, next_]
  next outside => rw [if_neg outside, if_pos (show c.second < lastSecond from next_.1), next_.2]

section
variable {s : State} {r : PlacedRecord} {c : EpochKey} {b : BankId} {g g' : Generation}
  (current : s.currentEpoch = some c) (new : ∀ sl ∈ s.table.slots, sl.key ≠ r.key)
  (governs : s.store.governing r.key.second = some (r.bank, g'))
include current new governs

/-- A record of the current epoch opens its slot (R65). -/
theorem State.takeRecord_current (key : r.key = c) (may : opens s.table.horizon c = true)
    (short : s.table.slots.length < 512) : ∃ n, s.takeRecord r =
      (((s.opening (s.newSlot n r.key r.bank g')).storeRecord r).expireDeadlines [r.key], .stored) := by
  subst key
  obtain ⟨n, opened⟩ := s.openSlot_free governs short
  refine ⟨n, ?_⟩
  simp [State.takeRecord, AlignTable.find_none.mpr new, State.takeNew, current, governs, may, opened]

/-- A record of the epoch after the current one, whose own slot H does not let open, opens its slot alone (R65). -/
theorem State.takeRecord_next (after : s.epochAfter c = some r.key) (shut : opens s.table.horizon c = false)
    (may : opens s.table.horizon r.key = true) (short : s.table.slots.length < 512) : ∃ n, s.takeRecord r =
      (((s.opening (s.newSlot n r.key r.bank g')).storeRecord r).expireDeadlines [r.key], .stored) := by
  obtain ⟨n, opened⟩ := s.openSlot_free governs short
  have newer := State.epochAfter_newer after
  have other : r.key ≠ c := fun e => by rw [e] at newer; omega
  have notOlder : ¬ EpochKey.older r.key c := by omega
  refine ⟨n, ?_⟩
  simp [State.takeRecord, AlignTable.find_none.mpr new, State.takeNew, current, governs, after, other, notOlder, may, shut,
    opened]

/-- A record of the epoch after the current one opens the current epoch's slot first, where H lets it (R65). -/
theorem State.takeRecord_pair (governs₀ : s.store.governing c.second = some (b, g)) (laws : s.table.Laws)
    (after : s.epochAfter c = some r.key) (first : opens s.table.horizon c = true)
    (may : opens s.table.horizon r.key = true) (short : s.table.slots.length < 511) : ∃ n m, s.takeRecord r =
      ((((s.opening (s.newSlot n c b g)).opening
        ((s.opening (s.newSlot n c b g)).newSlot m r.key r.bank g')).storeRecord r).expireDeadlines [c, r.key],
        .stored) := by
  obtain ⟨n, opened⟩ := s.openSlot_free governs₀ (by omega)
  obtain ⟨m, opened'⟩ := (s.opening (s.newSlot n c b g)).openSlot_free (e := r.key) governs
    (by simp [State.opening, AlignTable.opened]; omega)
  have newer := State.epochAfter_newer after
  have other : r.key ≠ c := fun e => by rw [e] at newer; omega
  have notOlder : ¬ EpochKey.older r.key c := by omega
  have unopened : s.table.find c = none := AlignTable.find_none.mpr fun o ho e => by
    have := laws.older_of_opens first o ho
    rw [e] at this
    omega
  refine ⟨n, m, ?_⟩
  simp [State.takeRecord, AlignTable.find_none.mpr new, State.takeNew, current, governs, after, other, notOlder, may,
    first, unopened, opened, opened']

end

/-- Settles O18: the boundary event opens under the governing bank, and a record opens its epoch's slot, or the current
epoch's slot before it. -/
theorem epochBoundaryOpensSlot : Obligations.EpochBoundaryOpensSlot := by
  unfold Obligations.EpochBoundaryOpensSlot
  intro s t₀ b g on set governs₀ inv short
  rw [← ProfileStore.governing_iff] at governs₀
  have laws := ((tableInv_iff s).mp inv).1
  have current := State.currentEpoch_governed set governs₀
  refine ⟨fun runs fresh => ?_, fun r g' handling new governs => ?_⟩
  · have run : exec .epochBoundary s = .next s.epochBoundary := by
      have e : exec .epochBoundary s = .next (s.whileOperating fun s =>
        if s.timebase.correction.isPause then s else s.epochBoundary) := rfl
      rw [e, State.whileOperating_on on, runs]
      rfl
    obtain ⟨n, evolves, ports⟩ := State.epochBoundary_opens current governs₀ ((opens_iff _ _).mpr fresh) short
    refine ⟨_, run, by ext1 <;> simp [ports], evolves.horizon, evolves.mark, evolves.lastGeneration, ?_, ?_⟩
    · rw [evolves.keys, AlignTable.opened, List.map_append]
      rfl
    · obtain ⟨sl, mem, evolved⟩ := evolves.forward (List.mem_append_right _ (List.mem_singleton_self _))
      refine ⟨sl, mem, (s.newSlot_opened n _ b g).of_same evolved.sameOpening, fun i => ?_⟩
      rw [evolved.entries]
      exact s.newSlot_entries n _ b g i
  · have run : exec .tableTakeRecord s = .next s.tableTake := congrArg _ (State.whileOperating_on on _)
    rw [← ProfileStore.governing_iff] at governs
    refine ⟨fun key fresh => ?_, fun h next_ horizon shut newer => ?_, fun next_ fresh shorter => ?_⟩
    · obtain ⟨n, taken⟩ := State.takeRecord_current current new governs key ((opens_iff _ _).mpr fresh) short
      obtain ⟨frame, evolves⟩ := State.tableTake_opens (t := s.table) handling taken rfl new
      refine ⟨_, run, frame, evolves.horizon, evolves.mark, evolves.lastGeneration, ?_, evolves.opened_slot⟩
      rw [evolves.keys, AlignTable.openedWith, List.map_append, List.map_singleton, Slot.store_key, ← key]
      rfl
    · obtain ⟨n, taken⟩ := State.takeRecord_next current new governs (State.epochAfter_eq governs₀ next_)
        (by simpa [horizon, opens] using shut) (by simpa [horizon, opens] using newer) short
      obtain ⟨frame, evolves⟩ := State.tableTake_opens (t := s.table) handling taken rfl new
      refine ⟨_, run, frame, evolves.horizon, evolves.mark, evolves.lastGeneration, ?_, evolves.opened_slot⟩
      rw [evolves.keys, AlignTable.openedWith, List.map_append, List.map_singleton, Slot.store_key]
      rfl
    · have after := State.epochAfter_eq governs₀ next_
      have newer := State.epochAfter_newer after
      obtain ⟨n, m, taken⟩ := State.takeRecord_pair current new governs governs₀ laws after ((opens_iff _ _).mpr fresh)
        ((opens_iff _ _).mpr fun h horizon => by have := fresh h horizon; omega) shorter
      obtain ⟨frame, evolves⟩ := State.tableTake_opens (t := (s.opening (s.newSlot n _ b g)).table) handling taken rfl
        (fun o ho => by
        rcases List.mem_append.mp ho with old | first
        · exact new o old
        · rw [List.mem_singleton.mp first]
          intro e
          rw [← e] at newer
          exact EpochKey.not_older_self _ newer)
      refine ⟨_, run, ⟨frame, evolves.horizon, evolves.mark, evolves.lastGeneration, ?_, evolves.opened_slot⟩, ?_⟩
      · rw [evolves.keys, AlignTable.openedWith, List.map_append, List.map_singleton, Slot.store_key,
          State.opening_keys, List.append_assoc]
        rfl
      · obtain ⟨sl, mem, evolved⟩ := evolves.forward (sl := s.newSlot n _ b g)
          (List.mem_append_left _ (List.mem_append_right _ (List.mem_singleton_self _)))
        refine ⟨sl, mem, (s.newSlot_opened n _ b g).of_same evolved.sameOpening, fun i => ?_⟩
        rw [evolved.entries]
        exact s.newSlot_entries n _ b g i

end Sys2Proof.Machine
end

section
/-! PROOFS. The lanes: the silence timers, the outbound side, the receiver over a whole frame and over one that is broken
off, and what a frame leaves (R24 to R29, R36, R38, R93, R95, R184, R185). -/

namespace Sys2Proof.Machine

/-! ### Timers and the outbound side -/

/-- A timer that has been set and has run out is due (R1). -/
theorem State.timerDue_of_past (s : State) {timer : Option Nat} {d : Nat} (set : timer = some d)
    (past : d ≤ s.timebase.elapsed) : s.timerDue timer = true :=
  (s.timerDue_iff timer).mpr ⟨d, set, past⟩

/-- Kinds raised from a state with the same ports are raised. -/
theorem RaisedInAll.of_same_ports {ks : List Kind} {s u t : State} (same : u.ports = s.ports) (h : RaisedInAll ks u t) :
    RaisedInAll ks s t := by
  intro p
  have raised := h p
  rwa [same] at raised

/-- A stream that the table expects becomes SILENT when its silence timer expires (R93). -/
theorem StreamRecord.expireSilence_expected {r : StreamRecord} (h : r.health.expected = true) :
    r.expireSilence = { r with health := .silent, silenceTimer := none } := by
  unfold StreamRecord.expireSilence
  rcases (Health.expected_iff r.health).mp h with e | e | e <;> rw [e]

/-- Settles O24: each of the three timers, once it is due, changes the one lane or stream it belongs to. -/
theorem silenceAndQuietExpire : Obligations.SilenceAndQuietExpire := by
  unfold Obligations.SilenceAndQuietExpire
  intro s on
  refine ⟨fun l d set past => ?_, fun i d set past expected => ?_, fun i d set past => ?_⟩
  · have run : exec (.laneSilenceTimerExpiry l) s = .next (s.laneSilence l) :=
      congrArg _ (State.whileOperating_on on _)
    rw [State.laneSilence, if_pos (s.timerDue_of_past set past)] at run
    refine ⟨_, run, by ext1 <;> simp, fun m hm => by simp [hm], by simp, ?_⟩
    exact .of_same_ports (State.updLane_ports _ _ _) (State.latchAll_raises _ _)
  · have run : exec (.streamSilenceTimerExpiry i) s = .next (s.updStream i StreamRecord.expireSilence) :=
      congrArg _ ((State.whileOperating_on on _).trans (if_pos (s.timerDue_of_past set past)))
    refine ⟨_, run, by ext1 <;> simp, fun j hj => by simp [hj], ?_⟩
    simpa using StreamRecord.expireSilence_expected expected
  · have run : exec (.quietTimerExpiry i) s = .next (s.updStream i StreamRecord.forgetFaults) :=
      congrArg _ ((State.whileOperating_on on _).trans (if_pos (s.timerDue_of_past set past)))
    exact ⟨_, run, by ext1 <;> simp, fun j hj => by simp [hj], by simp [StreamRecord.forgetFaults]⟩

/-- A lane frame on the line: the start byte, and its body with the check value over type, length and payload (R184,
R185). -/
theorem laneFrameBytes_eq (frameType : Byte) (payload : List Byte) : laneFrameBytes frameType payload =
    0xA5 :: laneBody frameType payload
      (bytesOf 4 (crc32 (frameType :: BitVec.ofNat 8 payload.length :: payload)).toNat) := by
  simp [laneFrameBytes, laneBody, bytesOf]

/-- A command frame on the line, byte by byte (R36, R184, R190). -/
theorem CommandFrame.bytes_eq (f : CommandFrame) (code : Byte) (named : code = (match f.action with
      | .halt => 0
      | .resume => 1
      | .echo => 2)) :
    f.bytes = 0xA5 :: ([0x81, 0x04] ++ bytesOf 2 f.station ++ [f.tag, code])
      ++ bytesOf 4 (crc32 ([0x81, 0x04] ++ bytesOf 2 f.station ++ [f.tag, code])).toNat := by
  have action : bytesOf 1 f.action.code = [code] := by
    subst named
    cases f.action <;> rfl
  rw [CommandFrame.bytes, action, laneFrameBytes_eq]
  simp [laneBody]

/-- Settles O25: the first frame leaves the queue, and its bytes are those of R184. -/
theorem commandFrameLeaves : Obligations.CommandFrameLeaves := by
  unfold Obligations.CommandFrameLeaves
  intro s l f rest on outbound
  have run : exec (.commandFrameSent l) s = .next (s.updLane l Lane.frameSent) :=
    congrArg _ (State.whileOperating_on on _)
  have first : s.lanes[l.val].outbound = f :: rest := outbound
  exact ⟨_, run, rfl, fun m hm => by simp [hm], by simp [Lane.frameSent, first], f.bytes_eq⟩

/-! ### The receiver -/

/-- Two changes of one place are one change. -/
theorem update_update {α : Type} {n : Nat} (v : Vector α n) (i : Fin n) (f g : α → α) :
    update (update v i f) i g = update v i fun x => g (f x) := by
  ext j hj
  by_cases place : (⟨j, hj⟩ : Fin n) = i <;> simp [update, place]

/-- A lane's receiver put into a state (R185). -/
def State.withRx (s : State) (l : LaneId) (rx : Rx) : State := s.updLane l fun q => { q with rx := rx }

@[simp] theorem State.withRx_timebase (s : State) (l : LaneId) (rx : Rx) : (s.withRx l rx).timebase = s.timebase := rfl

@[simp] theorem State.withRx_lanes (s : State) (l : LaneId) (rx : Rx) :
    (s.withRx l rx).lanes = update s.lanes l fun q => { q with rx := rx } := rfl

theorem State.withRx_withRx (s : State) (l : LaneId) (rx rx' : Rx) : (s.withRx l rx).withRx l rx' = s.withRx l rx' := by
  rw [State.withRx, State.updLane, State.withRx_lanes, update_update]
  rfl

/-- A receiver put into the state it is in stays as it is. -/
theorem State.withRx_self {s : State} {l : LaneId} {rx : Rx} (h : s.lanes[l].rx = rx) : s.withRx l rx = s := by
  rw [State.withRx, State.updLane, update_same _ _ _ (by rw [← h])]

/-- One event on a lane whose receiver is in a state. -/
theorem State.withRx_laneEvent (s : State) (l : LaneId) (rx : Rx) (e : LineEvent) : (s.withRx l rx).laneEvent l e =
    (s.withRx l (laneReceive s.timebase.elapsed rx e).1).laneArrival l (laneReceive s.timebase.elapsed rx e).2 := by
  have now : (s.withRx l rx).lanes[l].rx = rx := by simp
  rw [State.laneEvent, now]
  exact congrArg (State.laneArrival · l _) (s.withRx_withRx l rx _)

/-- The start byte puts a hunting receiver to gathering (R185). -/
theorem State.laneLine_start {s : State} {l : LaneId} (hunting : s.lanes[l].rx = .hunting) (line : List LineEvent) :
    s.laneLine l (.byte 0xA5 :: line) =
      line.foldl (fun s e => s.laneEvent l e) (s.withRx l (.receiving [] s.timebase.elapsed)) := by
  have first : s.laneEvent l (.byte 0xA5) = s.withRx l (.receiving [] s.timebase.elapsed) := by
    conv_lhs => rw [← State.withRx_self hunting, State.withRx_laneEvent]
    rfl
  rw [State.laneLine, hunting, Rx.sees_hunting, List.foldl_cons, first]

/-- Every proper beginning of a frame's body is gathered without an arrival (R185). -/
theorem laneGather_begins (now : Nat) {frameType : Byte} {payload check : List Byte} (fits : payload.length ≤ 106)
    (four : check.length = 4) {got rest : List Byte} {b last : Byte}
    (body : laneBody frameType payload check = got ++ b :: (rest ++ [last])) :
    laneGather now (got ++ [b]) = (.receiving (got ++ [b]) now, .nothing) := by
  match got with
  | [] => rfl
  | [_] =>
    obtain ⟨rfl, rfl, -⟩ : _ = frameType ∧ b = BitVec.ofNat 8 payload.length ∧ _ := by
      simpa [laneBody, eq_comm] using body
    exact laneGather_short now _ _ [] (by simp; omega) (by simp)
  | _ :: _ :: got =>
    obtain ⟨rfl, rfl, tail⟩ : frameType = _ ∧ BitVec.ofNat 8 payload.length = _ ∧
        payload ++ check = got ++ b :: (rest ++ [last]) := by
      simpa [laneBody] using body
    have length := congrArg List.length tail
    simp [four] at length
    exact laneGather_short now _ _ (got ++ [b]) (by simp; omega) (by simp; omega)

/-- A start byte and a body of an allowed length, on a hunting receiver, arrive as one frame (R24, R185). -/
theorem State.laneLine_whole {s : State} {l : LaneId} (hunting : s.lanes[l].rx = .hunting) (frameType : Byte)
    {payload check : List Byte} (fits : payload.length ≤ 106) (four : check.length = 4) :
    s.laneLine l ((0xA5 :: laneBody frameType payload check).map LineEvent.byte) =
      s.laneArrival l (.whole (laneBody frameType payload check)) := by
  obtain ⟨tail, last, body⟩ : ∃ tail last, laneBody frameType payload check = tail ++ [last] :=
    ⟨_, _, (List.dropLast_append_getLast (by simp [laneBody])).symm⟩
  rw [List.map_cons, State.laneLine_start hunting, body]
  refine foldl_gather (fun s e => s.laneEvent l e) (fun got => s.withRx l (.receiving got s.timebase.elapsed)) _ [] tail
    last ?_ ?_
  · rintro mid b rest rfl
    have quiet := laneGather_begins s.timebase.elapsed (rest := rest) (last := last) (got := mid) (b := b) fits four
      (by rw [body]; simp)
    simp [State.withRx_laneEvent, laneReceive, quiet, State.laneArrival]
  · have whole := laneGather_whole s.timebase.elapsed frameType (BitVec.ofNat 8 payload.length) (payload ++ check)
      (by simp; omega) (by simp; omega)
    rw [show frameType :: BitVec.ofNat 8 payload.length :: (payload ++ check) = tail ++ [last] from body] at whole
    simp [State.withRx_laneEvent, laneReceive, whole, State.withRx_self hunting]

/-- The checks of R24 on a frame's body. -/
theorem checkLaneFrame_body (frameType : Byte) {payload check : List Byte} (fits : payload.length ≤ 106) :
    checkLaneFrame (laneBody frameType payload check) =
      if (crc32 (frameType :: BitVec.ofNat 8 payload.length :: payload)).toNat = valueOf check then
        parsePayload frameType payload
      else none := by
  have length : (BitVec.ofNat 8 payload.length).toNat = payload.length := by simp; omega
  simp [checkLaneFrame, laneBody, length]

/-! ### Frames that are dropped -/

/-- What a discarded frame leaves (R25). -/
theorem State.discardLaneFrame_spec (s : State) (l : LaneId) :
    (s.discardLaneFrame l).lanes = update s.lanes l (fun q => { q with discardCount := q.discardCount + 1 }) ∧
      RaisedInAll [.laneEvent] s (s.discardLaneFrame l) := by
  refine ⟨by simp [State.discardLaneFrame], ?_⟩
  exact .of_same_ports (State.updLane_ports _ _ _) (State.latchAll_raises _ _)

/-- A line that a hunting lane drops: a body that fails a check, or a frame broken off (R24, R185). -/
theorem State.laneLine_drops {s : State} {l : LaneId} (hunting : s.lanes[l].rx = .hunting) {frameType : Byte}
    {payload check : List Byte} {line : List LineEvent} (fits : payload.length ≤ 106) (four : check.length = 4)
    (bad : line = (0xA5 :: frameType :: BitVec.ofNat 8 payload.length :: payload ++ check).map LineEvent.byte ∧
        (valueOf check ≠ (crc32 (frameType :: BitVec.ofNat 8 payload.length :: payload)).toNat ∨
          ¬ FitsFrame frameType payload)
      ∨ line = [.byte 0xA5, .byte frameType, .badStop] ∨ line = [.byte 0xA5, .byte frameType, .longGap]
      ∨ ∃ len : Byte, 106 < len.toNat ∧ line = [.byte 0xA5, .byte frameType, .byte len]) :
    s.laneLine l line = s.discardLaneFrame l := by
  have broken : ∀ e, laneReceive s.timebase.elapsed (.receiving [frameType] s.timebase.elapsed) e = (.hunting, .brokenOff) →
      s.laneLine l [.byte 0xA5, .byte frameType, e] = s.discardLaneFrame l := by
    intro e off
    have second : (s.withRx l (.receiving [] s.timebase.elapsed)).laneEvent l (.byte frameType) =
        s.withRx l (.receiving [frameType] s.timebase.elapsed) := s.withRx_laneEvent l _ _
    rw [State.laneLine_start hunting, List.foldl_cons, List.foldl_cons, List.foldl_nil, second, State.withRx_laneEvent, off,
      State.withRx_self hunting]
    rfl
  rcases bad with ⟨rfl, wrong⟩ | rfl | rfl | ⟨len, long, rfl⟩
  · have failed : checkLaneFrame (laneBody frameType payload check) = none := by
      rw [checkLaneFrame_body frameType fits]
      split
      next agrees =>
        have unfit := wrong.resolve_left (· agrees.symm)
        rwa [← parsePayload_isSome, Bool.not_eq_true, Option.isSome_eq_false_iff, Option.isNone_iff_eq_none] at unfit
      next => rfl
    have whole := State.laneLine_whole hunting frameType fits four
    rw [State.laneArrival, failed] at whole
    exact whole
  · exact broken _ rfl
  · exact broken _ rfl
  · exact broken _ (by simp [laneReceive, laneGather, lanePayloadLimit, long])

/-- Settles O23: each bad frame, and each one that a gap of elapsed time breaks off, is discarded. -/
theorem badLaneFrameDiscarded : Obligations.BadLaneFrameDiscarded := by
  unfold Obligations.BadLaneFrameDiscarded
  have run : ∀ (u : State) l line, u.operating = true → exec (.laneFrameArrival l line) u = .next (u.laneLine l line) :=
    fun u l line hu => congrArg _ (State.whileOperating_on hu _)
  refine ⟨fun s l frameType payload check line on hunting fits four bad => ?_, fun s l got last on receiving =>
    ⟨fun near => ?_, fun past => ?_⟩⟩
  · obtain ⟨lanes, raised⟩ := s.discardLaneFrame_spec l
    rw [run s l line on, State.laneLine_drops hunting fits four bad]
    exact ⟨_, rfl, by ext1 <;> simp, fun m hm => by simp [lanes, hm], by simp [lanes], raised⟩
  · rw [run s l [] on, State.laneLine, receiving, Rx.sees_receiving, if_neg (by unfold laneGapTime; omega)]
    rfl
  · have gap : laneGapTime < s.timebase.elapsed - last := by unfold laneGapTime; omega
    obtain ⟨lanes, raised⟩ := (s.withRx l .hunting).discardLaneFrame_spec l
    have dropped : (s.withRx l .hunting).discardLaneFrame l = s.laneLine l [] :=
      (s.laneLine_gap l got last receiving gap).symm
    have event : s.laneEvent l .longGap = (s.withRx l .hunting).discardLaneFrame l := by
      conv_lhs => rw [← State.withRx_self receiving, State.withRx_laneEvent]
      rfl
    have hunts : ((s.withRx l .hunting).discardLaneFrame l).lanes[l].rx = .hunting := by simp [lanes]
    refine ⟨(s.withRx l .hunting).discardLaneFrame l, by rw [run s l [] on, dropped], ?_, fun m hm => by simp [lanes, hm],
      by simp [lanes], raised, fun line => ?_⟩
    · ext1 <;> rfl
    · rw [run s l line on, run _ l line (by simpa [State.operating, State.withRx] using on), State.laneLine,
        State.laneLine, receiving, Rx.sees_receiving, if_pos gap, hunts, Rx.sees_hunting, List.foldl_cons, event]

end Sys2Proof.Machine
end

section
/-! PROOFS. The payloads a station sends are parsed to what was sent, and what a valid frame leaves (R24, R26, R27, R33, R35,
R38, R184). -/

namespace Sys2Proof.Machine

/-! ### Reading fields -/

/-- A field behind a first field is read as if the first were not there. -/
theorem field_skip (m v : Nat) (rest : List Byte) {offset : Nat} (n : Nat) (h : m ≤ offset) :
    field (bytesOf m v ++ rest) offset n = field rest (offset - m) n := by
  rw [field, List.drop_append, List.drop_eq_nil_of_le (by simpa using h), length_bytesOf, List.nil_append, field]

/-- A first field that fits is read as it was written. -/
theorem field_read {n v : Nat} (rest : List Byte) (h : v < 256 ^ n) : field (bytesOf n v ++ rest) 0 n = v := by
  rw [field, List.drop_zero, List.take_left' (length_bytesOf n v), valueOf_bytesOf h]

/-- A field at an offset is a field nearer to the start of what is left. -/
theorem field_drop (bs : List Byte) (a b n : Nat) : field bs (a + b) n = field (bs.drop a) b n := by
  simp [field]

/-- Items of one width, written one behind another, are read back one by one. -/
theorem map_decode_flatMap {α : Type} {enc : α → List Byte} {dec : List Byte → α} {w : Nat}
    (width : ∀ x, (enc x).length = w) (reads : ∀ x rest, dec (enc x ++ rest) = x) (items : List α) (rest : List Byte) :
    (List.range items.length).map (fun k => dec ((items.flatMap enc ++ rest).drop (w * k))) = items := by
  induction items with
  | nil => rfl
  | cons x items ih =>
    have behind : ∀ k, ((x :: items).flatMap enc ++ rest).drop (w * (k + 1)) =
        (items.flatMap enc ++ rest).drop (w * k) := by
      intro k
      rw [List.flatMap_cons, List.append_assoc, Nat.mul_add, Nat.mul_one, Nat.add_comm, ← List.drop_drop,
        List.drop_left' (width x)]
    rw [List.length_cons, List.range_succ_eq_map, List.map_cons, List.map_map]
    congr 1
    · rw [Nat.mul_zero, List.drop_zero, List.flatMap_cons, List.append_assoc, reads]
    · exact (List.map_congr_left fun k _ => congrArg dec (behind k)).trans ih

/-! ### Measurements -/

/-- A phasor as it stands in a payload (R184). -/
def Phasor.bytes (p : Phasor) : List Byte := bytesOf 4 p.magnitude.toNat ++ bytesOf 2 p.angle.toNat

/-- The phasor at the start of a run of bytes (R184). -/
def phasorAt (bs : List Byte) : Phasor where
  magnitude := BitVec.ofNat 32 (field bs 0 4)
  angle := BitVec.ofNat 16 (field bs 4 2)

theorem phasorAt_bytes (p : Phasor) (rest : List Byte) : phasorAt (p.bytes ++ rest) = p := by
  have magnitude := p.magnitude.isLt
  have angle := p.angle.isLt
  simp [phasorAt, Phasor.bytes, List.append_assoc, field_skip, field_read, magnitude, angle]

/-- The analog value at the start of a run of bytes (R184). -/
def analogAt (bs : List Byte) : Word := BitVec.ofNat 32 (field bs 0 4)

theorem analogAt_bytes (v : Word) (rest : List Byte) : analogAt (bytesOf 4 v.toNat ++ rest) = v := by
  have fits := v.isLt
  simp [analogAt, field_read, fits]

/-- The first 18 bytes of a measurement payload (R184). -/
def Record.header (r : Record) : List Byte :=
  bytesOf 2 r.station.toNat ++ (bytesOf 4 r.second.toNat ++ (bytesOf 4 r.fraction.toNat
    ++ (bytesOf 1 (r.quality.toNat * 16 + r.phasors.length) ++ (bytesOf 1 r.analogs.length
    ++ (bytesOf 2 r.status.toNat ++ (bytesOf 2 r.freqDev.toNat ++ bytesOf 2 r.rocof.toNat))))))

theorem Record.payload_eq (r : Record) :
    r.payload = r.header ++ (r.phasors.flatMap Phasor.bytes ++ r.analogs.flatMap fun v => bytesOf 4 v.toNat) := by
  simp only [Record.payload, Record.header, List.append_assoc]
  rfl

theorem Record.length_header (r : Record) : r.header.length = 18 := by simp [Record.header]

theorem Record.length_payload (r : Record) :
    r.payload.length = 18 + 6 * r.phasors.length + 4 * r.analogs.length := by
  have phasor : ∀ p : Phasor, p.bytes.length = 6 := fun p => by simp [Phasor.bytes]
  simp [r.payload_eq, r.length_header, List.length_flatMap, phasor]
  omega

theorem parsePhasors_payload (r : Record) : parsePhasors r.payload r.phasors.length = r.phasors := by
  have reads := map_decode_flatMap (w := 6) (fun p : Phasor => by simp [Phasor.bytes]) phasorAt_bytes r.phasors
    (r.analogs.flatMap fun v => bytesOf 4 v.toNat)
  refine (List.map_congr_left fun k _ => ?_).trans reads
  have behind : r.payload.drop (18 + 6 * k) =
      (r.phasors.flatMap Phasor.bytes ++ r.analogs.flatMap fun v => bytesOf 4 v.toNat).drop (6 * k) := by
    rw [← List.drop_drop, r.payload_eq, List.drop_left' r.length_header]
  have angle : field r.payload (22 + 6 * k) 2 = field (r.payload.drop (18 + 6 * k)) 4 2 := by
    rw [← field_drop, show 22 + 6 * k = 18 + 6 * k + 4 by omega]
  rw [← behind, phasorAt, ← angle, ← field_drop, Nat.add_zero]

theorem parseAnalogs_payload (r : Record) : parseAnalogs r.payload r.phasors.length r.analogs.length = r.analogs := by
  have reads := map_decode_flatMap (w := 4) (fun v : Word => length_bytesOf 4 v.toNat) analogAt_bytes r.analogs []
  rw [List.append_nil] at reads
  refine (List.map_congr_left fun k _ => ?_).trans reads
  have phasors : (r.phasors.flatMap Phasor.bytes).length = 6 * r.phasors.length := by
    simp [List.length_flatMap, Phasor.bytes]
    omega
  have behind : r.payload.drop (18 + 6 * r.phasors.length + 4 * k) =
      (r.analogs.flatMap fun v => bytesOf 4 v.toNat).drop (4 * k) := by
    rw [← List.drop_drop, ← List.drop_drop, r.payload_eq, List.drop_left' r.length_header, List.drop_left' phasors]
  rw [← behind, analogAt, ← field_drop, Nat.add_zero]

/-- A measurement payload is parsed to the record that was sent (R33, R184). -/
theorem parseMeasurement_payload (r : Record) (some_ : 1 ≤ r.phasors.length) (phasors : r.phasors.length ≤ 12)
    (analogs : r.analogs.length ≤ 4) : parseMeasurement r.payload = some r := by
  have station := r.station.isLt
  have second := r.second.isLt
  have fraction := r.fraction.isLt
  have quality := r.quality.isLt
  have status := r.status.isLt
  have freqDev := r.freqDev.isLt
  have rocof := r.rocof.isLt
  have counts : r.quality.toNat * 16 + r.phasors.length < 256 ^ 1 := by omega
  have analogs' : r.analogs.length < 256 ^ 1 := by omega
  have fields : field r.payload 0 2 = r.station.toNat ∧ field r.payload 2 4 = r.second.toNat ∧
      field r.payload 6 4 = r.fraction.toNat ∧ field r.payload 10 1 = r.quality.toNat * 16 + r.phasors.length ∧
      field r.payload 11 1 = r.analogs.length ∧ field r.payload 12 2 = r.status.toNat ∧
      field r.payload 14 2 = r.freqDev.toNat ∧ field r.payload 16 2 = r.rocof.toNat := by
    rw [r.payload_eq]
    simp only [Record.header, List.append_assoc, field_skip, Nat.reduceLeDiff, Nat.reduceSub, le_refl]
    exact ⟨field_read _ station, field_read _ second, field_read _ fraction, field_read _ counts, field_read _ analogs',
      field_read _ status, field_read _ freqDev, field_read _ rocof⟩
  obtain ⟨f0, f2, f6, f10, f11, f12, f14, f16⟩ := fields
  have low : (r.quality.toNat * 16 + r.phasors.length) % 16 = r.phasors.length := by omega
  have high : (r.quality.toNat * 16 + r.phasors.length) / 16 = r.quality.toNat := by omega
  unfold parseMeasurement
  simp only [f0, f2, f6, f10, f11, f12, f14, f16, low, high, parsePhasors_payload, parseAnalogs_payload,
    BitVec.ofNat_toNat, BitVec.setWidth_eq]
  exact if_pos ⟨some_, phasors, analogs, r.length_payload⟩

/-! ### Acknowledgments -/

/-- An acknowledgment payload is parsed to the acknowledgment that was sent (R35, R184). -/
theorem parseAck_payload (a : Ack) : parseAck a.payload = some a := by
  have station : field a.payload 0 2 = a.station.toNat := by
    rw [Ack.payload, List.append_assoc]
    exact field_read _ a.station.isLt
  have behind : ∀ k, a.payload[2 + k]? = [a.tag, if a.result = .done then 0x00 else 0x01][k]? := by
    intro k
    rw [Ack.payload, List.append_assoc, List.getElem?_append_right (by simp), length_bytesOf, Nat.add_sub_cancel_left]
    rfl
  have tag : field a.payload 2 1 = a.tag.toNat := by rw [field_one, behind 0]; rfl
  have result : field a.payload 3 1 = if a.result = .done then 0 else 1 := by
    rw [field_one, behind 1]
    cases a.result <;> rfl
  unfold parseAck
  rw [station, tag, result]
  obtain ⟨st, tg, res⟩ := a
  cases res <;> simp [Ack.payload]

/-! ### A valid frame -/

/-- A frame as a station sends it has an allowed length and passes the checks of R24. -/
theorem LaneContent.sent (c : LaneContent)
    (fits : ∀ r, c = .measurement r → 1 ≤ r.phasors.length ∧ r.phasors.length ≤ 12 ∧ r.analogs.length ≤ 4) :
    ∃ frameType payload, payload.length ≤ 106 ∧ parsePayload frameType payload = some c ∧
      c.bytes = laneFrameBytes frameType payload := by
  cases c with
  | measurement r =>
    obtain ⟨some_, phasors, analogs⟩ := fits r rfl
    refine ⟨0x01, r.payload, by rw [r.length_payload]; omega, ?_, rfl⟩
    simp [parsePayload, parseMeasurement_payload r some_ phasors analogs]
  | acknowledgment a =>
    refine ⟨0x02, a.payload, by simp [Ack.payload], ?_, rfl⟩
    simp [parsePayload, parseAck_payload]

/-- A frame as a station sends it, on a hunting receiver, is taken as valid (R24). -/
theorem State.laneLine_valid {s : State} {l : LaneId} (hunting : s.lanes[l].rx = .hunting) (c : LaneContent)
    (fits : ∀ r, c = .measurement r → 1 ≤ r.phasors.length ∧ r.phasors.length ≤ 12 ∧ r.analogs.length ≤ 4) :
    s.laneLine l (c.bytes.map LineEvent.byte) = s.validLaneFrame l c := by
  obtain ⟨frameType, payload, short, parsed, bytes⟩ := c.sent fits
  rw [bytes, laneFrameBytes_eq, State.laneLine_whole hunting frameType short (length_bytesOf 4 _), State.laneArrival,
    checkLaneFrame_body frameType short, valueOf_crc32, if_pos rfl, parsed]

/-- LANE_EVENT falls at a valid frame unless the lane is UP and has room for it (R26, R27, R40). -/
theorem Lane.eventAtFrame_iff (q : Lane) : q.eventAtFrame = true ↔ ¬ (q.up = true ∧ q.queue.length < 32) := by
  rw [Lane.eventAtFrame, Bool.or_eq_true, decide_eq_true_iff, Bool.not_eq_true', not_and_or, Bool.not_eq_true, Nat.not_lt]
  rfl

/-- What a valid frame leaves of its lane and the ports (R26, R27, R40). -/
theorem State.validLaneFrame_spec (s : State) (l : LaneId) (c : LaneContent) :
    (s.validLaneFrame l c).lanes = update s.lanes l (fun q => (q.signOfLife s.timebase.elapsed).enqueue
      ⟨c, l, s.timebase.localTime, s.timebase.elapsed⟩) ∧
    RaisedInAll (if s.lanes[l].eventAtFrame = true then [.laneEvent] else []) s (s.validLaneFrame l c) := by
  unfold State.validLaneFrame
  dsimp only
  split
  · exact ⟨by simp, .of_same_ports (State.updLane_ports _ _ _) (State.latchAll_raises _ _)⟩
  · exact ⟨by simp, .of_ports_eq (State.updLane_ports _ _ _)⟩

/-- Settles O22: the frame passes the checks, and its lane has room for it or not. -/
theorem validLaneFrameQueued : Obligations.ValidLaneFrameQueued := by
  unfold Obligations.ValidLaneFrameQueued
  intro s l c on hunting fits
  have run : exec (.laneFrameArrival l (c.bytes.map LineEvent.byte)) s = .next (s.validLaneFrame l c) := by
    rw [← State.laneLine_valid hunting c fits]
    exact congrArg _ (State.whileOperating_on on _)
  obtain ⟨lanes, raised⟩ := s.validLaneFrame_spec l c
  refine ⟨_, run, by ext1 <;> simp, fun m hm => by simp [lanes, hm], fun room => ?_, fun full => ?_, ?_⟩
  · have room' : s.lanes[l.val].queue.length < 32 := room
    simp [lanes, Lane.signOfLife, Lane.enqueue, laneQueueLimit, room', laneSilenceTime, elapsedSecond]
  · have full' : ¬ s.lanes[l.val].queue.length < 32 := Nat.not_lt.mpr full
    simp [lanes, Lane.signOfLife, Lane.enqueue, laneQueueLimit, full', laneSilenceTime, elapsedSecond]
  · simpa only [Lane.eventAtFrame_iff, ite_not] using raised

end Sys2Proof.Machine
end

section
/-! PROOFS. What the idle arbiter takes, and what it drops (R30, R32). -/

namespace Sys2Proof.Machine

/-- A change of a place writes it. -/
theorem update_eq_set {α : Type} {n : Nat} (v : Vector α n) (i : Fin n) (f : α → α) :
    update v i f = v.set i.val (f v[i]) := by
  ext j hj
  by_cases place : i.val = j
  · subst place
    simp
  · simp [update, Vector.getElem_set_ne _ _ place, Fin.ext_iff, Ne.symm place]

/-- The lane the idle arbiter serves is the one it finds (R30). -/
theorem State.nextItem_eq {s : State} {l : LaneId} {item : QueueItem} {rest : List QueueItem}
    (serves : ArbiterServes s l item rest) : s.nextItem = some (l, item, rest) := by
  obtain ⟨-, queue, k, rfl, empty⟩ := serves
  have order : [s.arbiter.position, s.arbiter.position + 1, s.arbiter.position + 2, s.arbiter.position + 3] =
      (List.finRange 4).map (s.arbiter.position + ·) := by simp [List.finRange]
  have split : ∀ k : Fin 4,
      List.finRange 4 = (List.finRange 4).filter (· < k) ++ k :: (List.finRange 4).filter (k < ·) := by decide
  unfold State.nextItem
  dsimp only
  rw [order, split k, List.map_append, List.map_cons, List.findSome?_append, List.findSome?_eq_none_iff.mpr ?_]
  · simp only [List.findSome?_cons, queue, Option.none_or]
  · intro m mem
    obtain ⟨j, before, rfl⟩ := List.mem_map.mp mem
    rw [empty j (by simpa using before)]

/-- The idle arbiter takes the head of the queue it serves, and routes it (R30, R31). -/
theorem State.arbiterTake_serves {s : State} {l : LaneId} {item : QueueItem} {rest : List QueueItem}
    (serves : ArbiterServes s l item rest) : s.arbiterTake = (afterTake s l rest).routeItem item := by
  have taken : s.dequeue l rest = afterTake s l rest := by
    rw [State.dequeue, update_eq_set]
    rfl
  rw [State.arbiterTake, serves.1, State.nextItem_eq serves, ← taken]

theorem State.device_aligning_iff (s : State) :
    s.device = .aligning ↔ s.store.active ≠ none ∧ s.timebase.localTime ≠ none := by
  unfold State.device
  cases s.store.active <;> cases s.timebase.localTime <;> simp

/-- A measurement taken outside ALIGNING, or stamped while local time was unset, goes no further (R32). -/
theorem State.routeItem_drops {s : State} {item : QueueItem} {r : Record} (content : item.content = .measurement r)
    (outside : s.store.active = none ∨ s.timebase.localTime = none ∨ item.arrivalLocal = none) :
    s.routeItem item = s := by
  unfold State.routeItem
  rw [content]
  dsimp only
  split
  next arrival aligning stamped =>
    obtain ⟨active, set⟩ := (s.device_aligning_iff).mp aligning
    rcases outside with h | h | h
    · exact absurd h active
    · exact absurd h set
    · rw [h] at stamped
      cases stamped
  next => rfl

/-- Settles O26: the item is taken, and goes no further. -/
theorem arbiterDropsOutsideAligning : Obligations.ArbiterDropsOutsideAligning := by
  unfold Obligations.ArbiterDropsOutsideAligning
  intro s l item rest r on serves content outside
  have run : exec .arbiterTake s = .next s.arbiterTake := congrArg _ (State.whileOperating_on on _)
  rw [State.arbiterTake_serves serves, State.routeItem_drops (s := afterTake s l rest) content outside] at run
  exact ⟨_, run, rfl⟩

end Sys2Proof.Machine
end

section
/-! PROOFS. What the placement unit hands on: the conditions under which it does, the tolerance about the instant of the
epoch, and the completed record (R31, R41 to R58). -/

namespace Sys2Proof.Machine

/-! ### The stream of a station code -/

theorem firstFailure_eq_none {l : List (Nat × Bool)} : firstFailure l = none ↔ ∀ x ∈ l, x.2 = false := by
  induction l with
  | nil => simp [firstFailure]
  | cons x l ih =>
    obtain ⟨a, fails⟩ := x
    cases fails <;> simp [firstFailure, ih]

/-- The station code of an enabled stream of a validated bank names a station, and no stream of lower index has it
(R127). -/
theorem Bank.station_of_validated {b : Bank} (passes : b.failing = none) {i : StreamId} (on : b.enabled i = true) :
    (1 ≤ b.station i ∧ b.station i ≤ 65534) ∧ ∀ j : StreamId, j < i → b.enabled j = true → b.station j ≠ b.station i := by
  have check := firstFailure_eq_none.mp passes
    (16 + 16 * i.val + 1, decide (b.station i < 1) || decide (65534 < b.station i) || codeTaken b i) (by
      refine List.mem_append_left _ (List.mem_append_right _ (List.mem_flatMap.mpr ⟨i, List.mem_finRange i, ?_⟩))
      simp [streamChecks, on])
  simp only [Bool.or_eq_false_iff, decide_eq_false_iff_not, Nat.not_lt] at check
  obtain ⟨range, free⟩ := check
  refine ⟨range, fun j before enabled same => ?_⟩
  have taken : codeTaken b i = true := List.any_eq_true.mpr ⟨j, List.mem_finRange j, by simp [before, enabled, same]⟩
  rw [free] at taken
  cases taken

/-- An enabled stream of a validated bank is found by its station code (R43). -/
theorem Bank.lookup_station {b : Bank} (passes : b.failing = none) {i : StreamId} (on : b.enabled i = true) :
    b.lookup (b.station i) = some i := by
  obtain ⟨range, first⟩ := b.station_of_validated passes on
  unfold Bank.lookup
  rw [if_neg (by omega)]
  rw [allStreams, ← Fin.find?_eq_find?_finRange, Fin.find?_eq_some_iff]
  refine ⟨by simp [on], fun j before => ?_⟩
  by_contra hit
  simp only [Bool.not_eq_false, Bool.and_eq_true, beq_iff_eq] at hit
  exact first j before hit.1 hit.2

/-! ### When a record is handed on -/

/-- The epoch index of a grid index, where the record is not between grid points (R52). -/
theorem epochIndex_iff (releaseRate rate j k : Nat) : epochIndex releaseRate rate j = some k ↔
    (releaseRate < rate ∧ j % (rate / releaseRate) = 0 ∧ k = j / (rate / releaseRate)) ∨
      (rate ≤ releaseRate ∧ k = j * (releaseRate / rate)) := by
  unfold epochIndex
  split
  next slower =>
    split
    next onGrid => simp [slower, onGrid, Nat.not_le.mpr slower, eq_comm]
    next between => simp [between, Nat.not_le.mpr slower]
  next faster => simp [faster, Nat.not_lt.mp faster, eq_comm]

theorem State.isAhead_iff (s : State) (e : EpochKey) : s.isAhead e = true ↔
    ∃ c, s.currentEpoch = some c ∧ (∀ n, s.epochAfter c = some n → EpochKey.older n e) ∧
      (s.epochAfter c = none → EpochKey.older c e) := by
  unfold State.isAhead
  cases s.currentEpoch with
  | none => simp
  | some c => cases after : s.epochAfter c <;> simp [after]

/-- The record rolls over into the next second and may: that second is one of the era, and of the same bank (R50). -/
def RollsWithin (ps : ProfileStore) (b : BankId) (rate : Nat) (r : Record) : Prop :=
  gridOf rate r = rate → r.second.toNat ≠ 4294967295 ∧ PlacementBank ps b (r.second.toNat + 1)

/-- A record on its grid is handed on when its second, after any rollover, is one of the bank's, it stands on an epoch, and
that is not ahead (R50, R52, R53). -/
theorem State.placeOnGrid_placed_iff (s : State) (b : BankId) (i : StreamId) (item : QueueItem) (arrival : LocalTime)
    (r : Record) (placed : PlacedRecord) : s.placeOnGrid b i item arrival r = .placed placed ↔
      RollsWithin s.store b ((s.store.bank b).streamRate i) r ∧ ∃ e, OnEpoch (s.store.bank b) i r e ∧ s.isAhead e = false ∧
        placed = completeRecord (s.store.bank b) b i (s.store.supervisedStream b i).isSome e
          (offsetNs r.fraction.toNat ((s.store.bank b).streamRate i)) item arrival r := by
  have grid : gridIndex r.fraction.toNat ((s.store.bank b).streamRate i) = gridOf ((s.store.bank b).streamRate i) r := rfl
  unfold State.placeOnGrid RollsWithin OnEpoch
  simp only [grid, beq_iff_eq, lastSecond, ne_eq, ← ProfileStore.placementBank_iff, ← epochIndex_iff]
  generalize gridOf ((s.store.bank b).streamRate i) r = j
  generalize (if j = (s.store.bank b).streamRate i then 0 else j) = onGrid
  generalize hx : (if j = (s.store.bank b).streamRate i then r.second.toNat + 1 else r.second.toNat) = x
  have next_ : j = (s.store.bank b).streamRate i → r.second.toNat + 1 = x := fun rolls => by rw [← hx, if_pos rolls]
  split
  next past => exact iff_of_false (by simp) fun h => (h.1 past.1).1 past.2
  next inEra =>
    split
    next foreign => exact iff_of_false (by simp) fun h => foreign.2 (next_ foreign.1 ▸ (h.1 foreign.1).2)
    next own =>
      have rolls : j = (s.store.bank b).streamRate i → ¬ r.second.toNat = 4294967295 ∧
          s.store.placementBank (r.second.toNat + 1) = some b := fun rolls =>
        ⟨fun last => inEra ⟨rolls, last⟩, by_contra fun no => own ⟨rolls, next_ rolls ▸ no⟩⟩
      split
      next between => exact iff_of_false (by simp) fun ⟨_, e, ⟨_, on⟩, _⟩ => by simp [between] at on
      next k index =>
        split
        next ahead =>
          refine iff_of_false (by simp) ?_
          rintro ⟨-, ⟨_, m⟩, ⟨rfl, on⟩, near, -⟩
          obtain rfl : k = m := by simpa [index] using on
          rw [near] at ahead
          cases ahead
        next near =>
          constructor
          · intro h
            exact ⟨rolls, ⟨x, k⟩, ⟨rfl, index⟩, by simpa only [Bool.not_eq_true] using near, (Placement.placed.inj h).symm⟩
          · rintro ⟨-, ⟨_, m⟩, ⟨rfl, on⟩, -, rfl⟩
            obtain rfl : k = m := by simpa [index] using on
            rfl

theorem ProfileStore.supervisedStream_isSome (ps : ProfileStore) (b : BankId) (i : StreamId) :
    (ps.supervisedStream b i).isSome = true ↔ Supervised ps b i := by
  rw [← ProfileStore.supervised_iff]
  unfold ProfileStore.supervisedStream
  split <;> simp [*]

/-- The tolerance test of the model is the one of the statements (R51). -/
theorem withinTolerance_iff (r : Record) (rate tolerance : Nat) : withinTolerance r.fraction.toNat rate tolerance = true ↔
    (offsetOf rate r).natAbs ≤ tolerance * 1000 * rate := decide_eq_true_iff

/-- A record whose stream is found is handed on when the stream is not QUARANTINED or HALTED, the record is sound, and its
grid gives it an epoch (R45, R47, R48, R51). -/
theorem State.placeFound_placed_iff (s : State) (b : BankId) (i : StreamId) (item : QueueItem) (arrival : LocalTime)
    (r : Record) (placed : PlacedRecord) : s.placeFound b i item arrival r = .placed placed ↔
      (Supervised s.store b i →
        s.supervisor.streams[i].health ≠ .quarantined ∧ s.supervisor.streams[i].health ≠ .halted) ∧
      Sound (s.store.bank b) i r ∧ s.placeOnGrid b i item arrival r = .placed placed := by
  have supervised := s.store.supervisedStream_isSome b i
  have tolerance := withinTolerance_iff r ((s.store.bank b).streamRate i) (s.store.bank b).tolerance
  unfold State.placeFound
  dsimp only
  split
  next barred =>
    have sup := supervised.mp barred.1
    exact iff_of_false (by simp) fun h => barred.2.elim (h.1 sup).1 (h.1 sup).2
  next judged =>
    have health : Supervised s.store b i →
        s.supervisor.streams[i].health ≠ .quarantined ∧ s.supervisor.streams[i].health ≠ .halted :=
      fun sup => ⟨fun e => judged ⟨supervised.mpr sup, .inl e⟩, fun e => judged ⟨supervised.mpr sup, .inr e⟩⟩
    split
    next bad =>
      exact iff_of_false (by simp) fun ⟨_, sound, _⟩ => bad.elim sound.1.1 (Nat.not_le.mpr sound.1.2)
    next time =>
      split
      next misfit => exact iff_of_false (by simp) fun ⟨_, sound, _⟩ => misfit.elim (· sound.2.1.1) (· sound.2.1.2)
      next shape =>
        split
        next far =>
          exact iff_of_false (by simp) fun ⟨_, sound, _⟩ => Bool.false_ne_true (far.symm.trans (tolerance.mpr sound.2.2))
        next within_ =>
          have sound : Sound (s.store.bank b) i r :=
            ⟨⟨fun e => time (.inl e), Nat.not_le.mp fun e => time (.inr e)⟩,
              ⟨by_contra fun e => shape (.inl e), by_contra fun e => shape (.inr e)⟩,
              tolerance.mp (Bool.eq_true_of_not_eq_false within_)⟩
          exact ⟨fun h => ⟨health, sound, h⟩, fun h => h.2.2⟩

/-- The placement unit hands a record on when its bank and its stream are found and it passes every check (R42, R43,
R58). -/
theorem State.place_placed_iff (s : State) (item : QueueItem) (arrival : LocalTime) (r : Record) (placed : PlacedRecord) :
    s.place item arrival r = .placed placed ↔ ∃ b i, PlacementBank s.store b r.second.toNat ∧
      (s.store.bank b).lookup r.station.toNat = some i ∧ s.placeFound b i item arrival r = .placed placed := by
  simp only [State.place, ← ProfileStore.placementBank_iff]
  cases bank : s.store.placementBank r.second.toNat with
  | none => simp
  | some b =>
    cases stream : (s.store.bank b).lookup r.station.toNat with
    | none => simp [stream]
    | some i => simp [stream]

/-! ### The tolerance about the instant of an epoch -/

/-- On the release grid an epoch index is to the release rate as the grid index is to the stream's rate (R52). -/
theorem onGrid_ratio {rate B j k : Nat} (stream : 0 < rate) (release : 0 < B) (divides : B % rate = 0 ∨ rate % B = 0)
    (grid : (B < rate ∧ j % (rate / B) = 0 ∧ k = j / (rate / B)) ∨ (rate ≤ B ∧ k = j * (B / rate))) :
    k * rate = j * B := by
  rcases grid with ⟨slower, onGrid, rfl⟩ | ⟨faster, rfl⟩
  · have divides : rate % B = 0 := divides.resolve_left fun e => by rw [Nat.mod_eq_of_lt slower] at e; omega
    have whole : rate / B * B = rate := Nat.div_mul_cancel (Nat.dvd_of_mod_eq_zero divides)
    have index : j / (rate / B) * (rate / B) = j := Nat.div_mul_cancel (Nat.dvd_of_mod_eq_zero onGrid)
    calc j / (rate / B) * rate = j / (rate / B) * (rate / B) * B := by rw [Nat.mul_assoc, whole]
      _ = j * B := by rw [index]
  · have divides : B % rate = 0 := by
      rcases divides with e | e
      · exact e
      · rcases Nat.lt_or_ge rate B with less | equal
        · rw [Nat.mod_eq_of_lt less] at e
          omega
        · rw [Nat.le_antisymm faster equal, Nat.mod_self]
    rw [Nat.mul_assoc, Nat.div_mul_cancel (Nat.dvd_of_mod_eq_zero divides)]

/-- The grid index of a fraction is at most the rate, which stands for the next second (R49, R50). -/
theorem gridOf_le {rate : Nat} {r : Record} (sound : TimeSound r) : gridOf rate r ≤ rate := by
  have fraction : r.fraction.toNat * rate ≤ 1000000000 * rate := Nat.mul_le_mul_right rate sound.2.le
  unfold gridOf
  omega

/-- A sound record stands within the tolerance of the instant of the epoch it is on, exactly (R49 to R52). -/
theorem OnEpoch.within {b : Bank} {i : StreamId} {r : Record} {e : EpochKey} (on : OnEpoch b i r e) (sound : Sound b i r)
    (stream : 0 < b.streamRate i) (release : 0 < b.rate)
    (divides : b.rate % b.streamRate i = 0 ∨ b.streamRate i % b.rate = 0) :
    ((((r.second.toNat * 1000000000 + r.fraction.toNat) * b.rate : Nat) : Int)
      - ((e.second * b.rate + e.index) * 1000000000 : Nat)).natAbs ≤ b.tolerance * 1000 * b.rate ∧ e.index < b.rate := by
  obtain ⟨time, -, near⟩ := sound
  obtain ⟨second, grid⟩ := on
  have ratio := onGrid_ratio stream release divides grid
  have short := gridOf_le (rate := b.streamRate i) time
  unfold offsetOf at near
  generalize b.streamRate i = rate at *
  generalize gridOf rate r = j at *
  generalize hX : (((r.second.toNat * 1000000000 + r.fraction.toNat) * b.rate : Nat) : Int)
    - ((e.second * b.rate + e.index) * 1000000000 : Nat) = X
  have scaled : X * rate = ((r.fraction.toNat * rate : Nat) - (j * 1000000000 : Nat) : Int) * b.rate := by
    have ratio' : (e.index : Int) * rate = (if j = rate then 0 else j : Nat) * b.rate := by exact_mod_cast ratio
    rw [← hX, second]
    split at ratio'
    next rolls =>
      subst rolls
      rw [if_pos rfl]
      push_cast at ratio' ⊢
      linear_combination (-1000000000) * ratio'
    next stays =>
      rw [if_neg stays]
      push_cast at ratio' ⊢
      linear_combination (-1000000000) * ratio'
  constructor
  · refine Nat.le_of_mul_le_mul_right (c := rate) ?_ stream
    calc X.natAbs * rate = ((r.fraction.toNat * rate : Nat) - (j * 1000000000 : Nat) : Int).natAbs * b.rate := by
          have abs := congrArg Int.natAbs scaled
          rwa [Int.natAbs_mul, Int.natAbs_mul, Int.natAbs_natCast, Int.natAbs_natCast] at abs
      _ ≤ b.tolerance * 1000 * rate * b.rate := Nat.mul_le_mul_right _ near
      _ = b.tolerance * 1000 * b.rate * rate := by ring
  · refine Nat.lt_of_mul_lt_mul_right (a := rate) ?_
    rw [ratio, Nat.mul_comm b.rate rate]
    refine Nat.mul_lt_mul_of_pos_right ?_ release
    split <;> omega

/-- The second of an epoch that a record is placed on is one of the era (R50). -/
theorem OnEpoch.second_lt {ps : ProfileStore} {c : BankId} {b : Bank} {i : StreamId} {r : Record} {e : EpochKey}
    (on : OnEpoch b i r e) (rolls : RollsWithin ps c (b.streamRate i) r) : e.second < 2 ^ 32 := by
  have second := r.second.isLt
  rw [on.1]
  split
  next next_ =>
    have inEra := (rolls next_).1
    omega
  next => exact second

/-! ### The completed record -/

/-- The turn of a phasor is the quotient of R54, rounded to the nearest, a half away from zero. -/
theorem phasorTurn_isTurn (freqDev delta : Int) : IsTurn freqDev delta (phasorTurn freqDev delta) := by
  unfold IsTurn phasorTurn roundTera
  dsimp only
  generalize freqDev * delta * 65536 = q
  split <;> omega

theorem freqAvailable_iff (r : Record) : freqAvailable r = true ↔ r.freqDev ≠ 0x8000 := bne_iff_ne

/-- The turn taken off the angles of a record (R54). -/
theorem recordTurn_spec (on : Bool) (r : Record) (delta : Int) :
    (on = true ∧ r.freqDev ≠ 0x8000 → IsTurn r.freqDev.toInt delta (recordTurn on r delta)) ∧
    (¬ (on = true ∧ r.freqDev ≠ 0x8000) → recordTurn on r delta = 0) := by
  unfold recordTurn
  simp only [Bool.and_eq_true, freqAvailable_iff]
  exact ⟨fun h => by rw [if_pos h]; exact phasorTurn_isTurn _ _, fun h => if_neg h⟩

/-! ### The epoch that is not ahead -/

/-- An epoch has at most one next epoch, and the model finds it (R53). -/
theorem State.epochAfter_iff {s : State} {c n : EpochKey} {v : BankId} {g : Generation}
    (governs : s.store.governing c.second = some (v, g)) :
    s.epochAfter c = some n ↔ NextEpoch (s.store.bank v).rate c n := by
  refine ⟨fun h => ?_, State.epochAfter_eq governs⟩
  unfold State.epochAfter at h
  rw [ProfileStore.governingBank, governs] at h
  unfold NextEpoch
  dsimp only [Option.map_some] at h
  split at h
  next inside => rw [if_pos inside, ← Option.some.inj h]
  next outside =>
    rw [if_neg outside]
    split at h
    next inEra => exact ⟨inEra, (Option.some.inj h).symm⟩
    next => cases h

/-- The AHEAD test of the model is the one of the statements (R53). -/
theorem State.isAhead_eq {s : State} {now : LocalTime} {v : BankId} {g : Generation}
    (set : s.timebase.localTime = some now) (governs : s.store.governing now.second = some (v, g)) (e : EpochKey) :
    s.isAhead e = true ↔
      Ahead (s.store.bank v).rate ⟨now.second, now.ns * (s.store.bank v).rate / 1000000000⟩ e := by
  have current := State.currentEpoch_governed set governs
  have after := fun n => State.epochAfter_iff (n := n)
    (c := ⟨now.second, now.ns * (s.store.bank v).rate / 1000000000⟩) governs
  rw [State.isAhead_iff, current]
  unfold Ahead
  generalize (⟨now.second, now.ns * (s.store.bank v).rate / 1000000000⟩ : EpochKey) = c at *
  constructor
  · rintro ⟨_, ⟨⟩, newer, last⟩
    refine ⟨?_, fun n next_ => newer n ((after n).mpr next_)⟩
    cases next_ : s.epochAfter c with
    | none => exact last next_
    | some n =>
      have past := newer n next_
      have step := State.epochAfter_newer next_
      omega
  · rintro ⟨newer, past⟩
    exact ⟨c, rfl, fun n next_ => past n ((after n).mp next_), fun _ => newer⟩

/-! ### The obligation -/

/-- A record that the arbiter routes while ALIGNING goes to the placement unit (R31, R32). -/
theorem State.routeItem_places {s : State} {item : QueueItem} {r : Record} {arrival now : LocalTime} {a : BankId}
    (content : item.content = .measurement r) (stamped : item.arrivalLocal = some arrival)
    (active : s.store.active = some a) (set : s.timebase.localTime = some now) :
    s.routeItem item = s.applyPlacement (s.place item arrival r) := by
  have aligning : s.device = .aligning := (s.device_aligning_iff).mpr (by simp [active, set])
  rw [State.routeItem, content, aligning, stamped]

/-- Settles O28: what is handed on has passed the checks, and what passes them is handed on complete. -/
theorem placedWithinTolerance : Obligations.PlacedWithinTolerance := by
  unfold Obligations.PlacedWithinTolerance
  constructor
  · intro s item arrival r placed handed
    obtain ⟨b, i, -, -, found⟩ := (s.place_placed_iff item arrival r placed).mp handed
    obtain ⟨-, sound, onGrid⟩ := (s.placeFound_placed_iff b i item arrival r placed).mp found
    obtain ⟨rolls, e, on, near, rfl⟩ := (s.placeOnGrid_placed_iff b i item arrival r placed).mp onGrid
    intro bank rate stream divides release
    obtain ⟨within_, index⟩ := on.within sound stream release divides
    refine ⟨within_, index, on.second_lt rolls, fun c current n next_ newer => ?_⟩
    have ahead : s.isAhead e = true :=
      (s.isAhead_iff e).mpr ⟨c, current, fun m hm => by rw [next_] at hm; cases hm; exact newer, by simp [next_]⟩
    rw [near] at ahead
    cases ahead
  · intro s l item rest r arrival now b v g i e on serves content stamped set home governs bank passes enabled station
      health sound onEpoch rolls near
    obtain ⟨a, active, -⟩ := id home
    have run : exec .arbiterTake s = .next s.arbiterTake := congrArg _ (State.whileOperating_on on _)
    have lookup : bank.lookup r.station.toNat = some i := station ▸ bank.lookup_station passes enabled
    have notAhead : (afterTake s l rest).isAhead e = false := by
      rw [← Bool.not_eq_true,
        State.isAhead_eq (s := afterTake s l rest) set ((ProfileStore.governing_iff _ _ _ _).mpr governs)]
      exact near
    have placed : (afterTake s l rest).place item arrival r = .placed
        (completeRecord bank b i (s.store.supervisedStream b i).isSome e
          (offsetNs r.fraction.toNat (bank.streamRate i)) item arrival r) :=
      (State.place_placed_iff _ _ _ _ _).mpr ⟨b, i, home, lookup, (State.placeFound_placed_iff _ _ _ _ _ _ _).mpr
        ⟨health, sound, (State.placeOnGrid_placed_iff _ _ _ _ _ _ _).mpr ⟨rolls, e, onEpoch, notAhead, rfl⟩⟩⟩
    obtain ⟨turned, kept⟩ := recordTurn_spec (bank.angleCorrection i) r
      (offsetNs r.fraction.toNat (bank.streamRate i))
    rw [State.arbiterTake_serves serves, State.routeItem_places (s := afterTake s l rest) content stamped active set,
      placed] at run
    refine ⟨_, _, _, run, rfl, turned, kept, rfl, ?_, ?_, ?_, ?_⟩
    · exact s.store.supervisedStream_isSome b i
    · exact decide_eq_true_iff
    · exact decide_eq_true_iff
    · simp only [completeRecord, Bool.and_eq_true, decide_eq_true_iff, and_assoc, Bool.not_eq_true', ← Bool.not_eq_true,
        freqAvailable_iff]
      rfl

end Sys2Proof.Machine
end

section
/-! PROOFS. The requests that read the roster, a stream, the worst latencies and the lanes (R37, R110, R111, R145, R154). -/

namespace Sys2Proof.Machine

/-- A request whose owner changes its own port alone, in what the taking of a request does not touch. -/
theorem serveStep_updPort {s : State} {p : PortId} (h : Serves s p) (c : Instr) (tag : Byte)
    {owner : State → State × Reply} {f : Port → Port} {r : Reply}
    (ho : owner (s.updPort p (Port.takeInHand c)) = ((s.updPort p (Port.takeInHand c)).updPort p f, r))
    (commutes : ∀ q, f (Port.takeInHand c q) = Port.takeInHand c (f q)) :
    ∃ t, serveStep c p tag owner s = .next t ∧ t = { s with ports := t.ports } ∧
      AnsweredAt p tag r.code r.result (f s.ports[p]) s t := by
  refine ⟨_, serveStep_idle h c tag owner, ?_, State.answer_answered ho ?_ fun i hi => ?_⟩
  · rw [State.answer, ho]
    rfl
  · simp [commutes]
  · simp [hi]

/-- A list over every index has at an index what it is made of there. -/
theorem map_finRange_getElem? {α : Type} {n : Nat} (f : Fin n → α) (i : Fin n) :
    ((List.finRange n).map f)[i.val]? = some (f i) := by
  simp

/-- The taking of a request and the renewing of the watch copy touch different things of a port. -/
theorem Port.takeInHand_watch (c : Instr) (w : Vector Health 48) (q : Port) :
    { Port.takeInHand c q with watch := w } = Port.takeInHand c { q with watch := w } := rfl

/-- READ ROSTER STATE: what stands, and the watch copy brought up to it (R154, R179). -/
theorem readRosterState_answers {s : State} {p : PortId} (tag : Byte) (serves : Serves s p) :
    ∃ t w streams, exec (.readRosterState p tag) s = .next t ∧ t = { s with ports := t.ports } ∧
      AnsweredAt p tag .ok (.roster (s.store.active.map fun _ => s.store.generation) streams)
        { s.ports[p] with watch := w } s t ∧
      (∀ i : StreamId, w[i] = s.supervisor.streams[i].health) ∧
      streams.length = 48 ∧
      (∀ i : StreamId, streams[i.val]? = some (s.supervisor.streams[i].health, s.store.activeStation i)) ∧
      rosterChanged t p = false := by
  obtain ⟨t, run, frame, answered⟩ := serveStep_updPort serves (.readRosterState p tag) tag
    (owner := fun u => u.readRosterState p)
    (f := fun q => { q with watch := Vector.ofFn fun i => s.supervisor.streams[i].health }) (r := .ok (.roster
      (s.store.active.map fun _ => s.store.generation)
      (allStreams.map fun i : StreamId => (s.supervisor.streams[i].health, s.store.activeStation i))))
    (by simp only [State.readRosterState, State.updPort_supervisor, State.updPort_store])
    (Port.takeInHand_watch _ _)
  refine ⟨t, _, _, run, frame, answered, fun i => by simp, by simp [allStreams], map_finRange_getElem? _, ?_⟩
  have supervisor : t.supervisor = s.supervisor := by rw [frame]
  unfold rosterChanged
  rw [supervisor, answered.1]
  simp [Machine.answered]

/-- READ STREAM DETAIL: an index outside 0..47 is refused, and any other is reported (R110, R145). -/
theorem readStreamDetail_answers {s : State} {p : PortId} (tag index : Byte) (serves : Serves s p) :
    (48 ≤ index.toNat → ∃ t, exec (.readStreamDetail p tag index) s = .next t ∧ Refuses p tag .invalid s t) ∧
    ∀ i : StreamId, i.val = index.toNat → ∃ t, exec (.readStreamDetail p tag index) s = .next t ∧
      t = { s with ports := t.ports } ∧ AnsweredAt p tag .ok (.detail (s.streamDetail i)) s.ports[p] s t := by
  obtain ⟨outside, inside⟩ := decodeStream_eq index
  refine ⟨fun out => ?_, fun i named => ?_⟩
  · exact serveStep_refuses serves _ tag (fun u => u.readStreamDetail index) .invalid
      (by simp [State.readStreamDetail, outside out])
  · exact serveStep_readOnly serves _ tag (fun u => u.readStreamDetail index) (.ok (.detail (s.streamDetail i)))
      (by rw [State.readStreamDetail, inside i named.symm]; rfl)

/-- The items of READ WORST LATENCY are the listed streams with the figures that stand, and all of them when each has its
tracker (R111). -/
theorem worstItems_spec (sv : Supervisor) (items : List (StreamId × Health × Tracker))
    (h : items = sv.worst.filterMap fun i => sv.streams[i].tracker.map fun t => (i, sv.streams[i].health, t)) :
    (∀ x ∈ items, x.1 ∈ sv.worst ∧ x.2.1 = sv.streams[x.1].health ∧ some x.2.2 = sv.streams[x.1].tracker) ∧
      ((∀ i ∈ sv.worst, sv.streams[i].tracker.isSome = true) → items.map Prod.fst = sv.worst) := by
  subst h
  constructor
  · intro x mem
    obtain ⟨i, listed, item⟩ := List.mem_filterMap.mp mem
    obtain ⟨t, tracker, rfl⟩ := Option.map_eq_some_iff.mp item
    exact ⟨listed, rfl, tracker.symm⟩
  · induction sv.worst with
    | nil => exact fun _ => rfl
    | cons i l ih =>
      intro tracked
      obtain ⟨t, tracker⟩ := Option.isSome_iff_exists.mp (tracked i List.mem_cons_self)
      rw [List.filterMap_cons, tracker]
      exact congrArg (i :: ·) (ih fun j mem => tracked j (List.mem_cons_of_mem i mem))

/-- Settles O43: the four reads, each by what it answers. -/
theorem readsChangeNoBlock : Obligations.ReadsChangeNoBlock := by
  unfold Obligations.ReadsChangeNoBlock
  intro s p tag serves
  refine ⟨readRosterState_answers tag serves, fun index => ?_, ?_, ?_⟩
  · obtain ⟨outside, inside⟩ := readStreamDetail_answers tag index serves
    refine ⟨outside, fun i named => ?_⟩
    obtain ⟨t, run, frame, answered⟩ := inside i named
    exact ⟨t, _, run, frame, answered, rfl, rfl, rfl, rfl, rfl, rfl, rfl, rfl, rfl, rfl, rfl, rfl, rfl, rfl⟩
  · obtain ⟨t, run, frame, answered⟩ := serveStep_readOnly serves (.readWorstLatency p tag) tag State.readWorstLatency _ rfl
    exact ⟨t, _, run, frame, answered, worstItems_spec s.supervisor _ rfl⟩
  · obtain ⟨t, run, frame, answered⟩ := serveStep_readOnly serves (.readLanes p tag) tag State.readLanes _ rfl
    exact ⟨t, _, run, frame, answered, by simp [allLanes], fun l =>
      ⟨_, map_finRange_getElem? _ l, rfl, rfl, rfl, rfl, rfl, rfl, rfl, rfl, rfl, rfl⟩⟩

end Sys2Proof.Machine
end

section
/-! PROOFS. STREAM COMMAND: the route of a stream, the station that is busy, and the request by its checks (R29, R135 to
R137). -/

namespace Sys2Proof.Machine

/-- The lowest-numbered lane that is UP (R136). -/
theorem State.lowestUp_iff (s : State) (l : LaneId) :
    s.lowestUp = some l ↔ s.lanes[l].up = true ∧ ∀ m : LaneId, m < l → s.lanes[m].up = false := by
  rw [State.lowestUp, allLanes, ← Fin.find?_eq_find?_finRange, Fin.find?_eq_some_iff]

/-- The route that the model takes is the one of the statements (R136). -/
theorem State.route_iff (s : State) (i : StreamId) (l : LaneId) : s.route i = some l ↔ Routes s i l := by
  have lowest := s.lowestUp_iff l
  unfold State.route Routes
  dsimp only
  generalize s.supervisor.streams[i] = r
  cases r.lastLane with
  | none =>
    dsimp only
    split
    next halted => simp [lowest, halted]
    next other => simp [other]
  | some m =>
    dsimp only
    split
    next up =>
      constructor
      · intro e
        obtain rfl := Option.some.inj e
        exact ⟨up, .inl rfl⟩
      · rintro ⟨-, same | ⟨-, down, -⟩⟩
        · exact same
        · exact absurd up (Bool.eq_false_iff.mp (down m rfl))
    next down =>
      split
      next halted =>
        rw [lowest]
        constructor
        · rintro ⟨up, first⟩
          exact ⟨up, .inr ⟨halted, fun k hk => Option.some.inj hk ▸ Bool.eq_false_iff.mpr down, first⟩⟩
        · rintro ⟨up, same | ⟨-, -, first⟩⟩
          · exact absurd (Option.some.inj same ▸ up) down
          · exact ⟨up, first⟩
      next other =>
        refine iff_of_false (by simp) ?_
        rintro ⟨up, same | ⟨halted, -⟩⟩
        · exact down (Option.some.inj same ▸ up)
        · exact other halted

/-- A station is busy for stream `i` when another stream's PENDING command is for it (R136). -/
theorem Relay.stationBusy_iff (r : Relay) (i : StreamId) (station : Nat) : r.stationBusy i station = true ↔
    ∃ j : StreamId, ∃ c, j ≠ i ∧ r.slots[j] = some c ∧ c.station = station := by
  simp only [Relay.stationBusy, allStreams, List.any_eq_true, List.mem_finRange, true_and, Bool.and_eq_true,
    decide_eq_true_iff]
  refine exists_congr fun j => ?_
  cases r.slots[j] <;> simp

/-- An action is decoded from its byte, and no other byte is (R136, R190). -/
theorem decodeAction_eq (action : Byte) : (2 < action.toNat → decodeAction action = none) ∧
    (action.toNat ≤ 2 → ∃ a, decodeAction action = some a ∧ (a = .halt ↔ action = 0) ∧ (a = .resume ↔ action = 1)) := by
  unfold decodeAction
  by_cases halt : action = 0
  · exact ⟨fun h => by simp [halt] at h, fun _ => ⟨.halt, by simp [halt]⟩⟩
  by_cases resume : action = 1
  · exact ⟨fun h => by simp [resume] at h, fun _ => ⟨.resume, by simp [resume]⟩⟩
  by_cases echo : action = 2
  · exact ⟨fun h => by simp [echo] at h, fun _ => ⟨.echo, by simp [echo]⟩⟩
  · exact ⟨fun _ => by rw [if_neg halt, if_neg resume, if_neg echo], fun h => by bv_omega⟩

/-- STREAM COMMAND at the relay, when an operand names nothing (R136). -/
theorem State.streamCommand_unnamed (s : State) (p : PortId) {index action : Byte}
    (unnamed : decodeStream index = none ∨ decodeAction action = none) :
    s.streamCommand p index action = (s, .bare .invalid) := by
  unfold State.streamCommand
  split
  next stream act => rcases unnamed with h | h <;> simp [h] at stream act
  next => rfl

/-- STREAM COMMAND at the relay, once its operands name a stream and an action (R136, R137). -/
theorem State.streamCommand_eq (s : State) (p : PortId) {index action : Byte} {i : StreamId} {a : Action}
    (stream : decodeStream index = some i) (act : decodeAction action = some a) :
    (s.supervisor.streams[i].health = .unconfigured → s.streamCommand p index action = (s, .bare .invalid)) ∧
    (s.supervisor.streams[i].health ≠ .unconfigured →
      (s.relay.slots[i].isSome = true → s.streamCommand p index action = (s, .bare .busy)) ∧
      (∀ station, s.relay.slots[i] = none → s.store.activeStation i = some station →
        (s.relay.stationBusy i station = true → s.streamCommand p index action = (s, .bare .busy)) ∧
        (s.relay.stationBusy i station = false →
          (s.route i = none → s.streamCommand p index action = (s, .bare .noRoute)) ∧
          ∀ l, s.route i = some l → s.streamCommand p index action =
            (s.issueCommand p i a l station, .ok (.command s.relay.tags[i] l))))) := by
  unfold State.streamCommand
  rw [stream, act]
  dsimp only
  refine ⟨fun unconfigured => if_pos unconfigured, fun configured => ?_⟩
  rw [if_neg configured]
  refine ⟨fun pending => if_pos pending, fun station empty active => ?_⟩
  rw [if_neg (by simp [empty]), active]
  dsimp only
  refine ⟨fun busy => if_pos busy, fun free => ?_⟩
  rw [if_neg (by simp [free])]
  exact ⟨fun unrouted => by rw [unrouted], fun l routed => by rw [routed]⟩

/-- A command frame handed to a lane joins its queue, or is dropped and counted when 16 wait (R29). -/
theorem Lane.hand_eq (f : CommandFrame) (q : Lane) : q.hand f =
    if q.outbound.length < 16 then { q with outbound := q.outbound ++ [f] } else { q with dropCount := q.dropCount + 1 } :=
  rfl

/-- Settles O50: the refusals in their order, and the command that is issued. -/
theorem streamCommandIssued : Obligations.StreamCommandIssued := by
  unfold Obligations.StreamCommandIssued
  intro s p tag index action serves
  obtain ⟨noStream, someStream⟩ := decodeStream_eq index
  obtain ⟨noAction, someAction⟩ := decodeAction_eq action
  refine ⟨fun unnamed => ?_, fun i stream act => ?_⟩
  · refine serveStep_refuses serves _ tag (fun u => u.streamCommand p index action) .invalid ?_
    exact State.streamCommand_unnamed _ p (unnamed.imp noStream noAction)
  · obtain ⟨a, act, halt, resume⟩ := someAction act
    obtain ⟨unconfigured, configured⟩ := State.streamCommand_eq
      (s.updPort p (Port.takeInHand (.streamCommand p tag index action))) p (someStream i stream) act
    have refuses := fun code =>
      serveStep_refuses serves (.streamCommand p tag index action) tag (fun u => u.streamCommand p index action) code
    refine ⟨fun h => refuses _ (unconfigured h), fun h pending => refuses _ ((configured h).1 pending),
      fun station h empty active => ?_⟩
    obtain ⟨busy, free⟩ := (configured h).2 station empty active
    refine ⟨fun taken => refuses _ (busy ((Relay.stationBusy_iff _ i station).mpr taken)), fun others => ?_⟩
    have idle : s.relay.stationBusy i station = false := by
      rw [← Bool.not_eq_true, Relay.stationBusy_iff]
      rintro ⟨j, c, -, slot, same⟩
      exact others j c slot same
    obtain ⟨unrouted, routed⟩ := free idle
    refine ⟨fun none => refuses _ (unrouted ?_), fun l route => ?_⟩
    · exact Option.eq_none_iff_forall_ne_some.mpr fun l found => none l ((s.route_iff i l).mp found)
    · obtain ⟨t, run, frame, answered⟩ := serveStep_answers serves (.streamCommand p tag index action) tag
        (owner := fun u => u.streamCommand p index action) (routed l ((s.route_iff i l).mpr route)) (by simp)
      have relay : t.relay = (s.issueCommand p i a l station).relay := by rw [frame]; rfl
      have lanes : t.lanes = update s.lanes l (Lane.hand ⟨station, s.relay.tags[i], a⟩) := by rw [frame]; rfl
      refine ⟨t, a, run, halt, resume, ?_, answered, ?_, fun m hm => ?_, ?_⟩
      · rw [relay, lanes, frame]
        rfl
      · rw [relay]
        simp only [State.issueCommand, State.after, commandTime, elapsedSecond]
        exact ⟨by simp, by simp, fun j hj => by simp [hj]⟩
      · simp [lanes, hm]
      · simp only [lanes, Fin.getElem_fin, update_get_self, Lane.hand_eq]

end Sys2Proof.Machine
end

section
/-! PROOFS. What a command leaves of the queues, the handlers and the command slots, said once for every operation that
touches none of them. -/

namespace Sys2Proof.Machine

/-- The outbound queue and the handler of a port stand as they stood. -/
def Port.SameLink (q q' : Port) : Prop := q'.outbound = q.outbound ∧ q'.handler = q.handler

theorem Port.SameLink.refl (q : Port) : q.SameLink q := ⟨rfl, rfl⟩

theorem Port.SameLink.trans {q q' q'' : Port} (h : q.SameLink q') (h' : q'.SameLink q'') : q.SameLink q'' :=
  ⟨h'.1.trans h.1, h'.2.trans h.2⟩

/-- From `s` to `t` the lanes, the command slots, and the outbound queue and the handler of every port stand as they
stood. -/
structure KeepsLink (s t : State) : Prop where
  lanes : t.lanes = s.lanes
  relay : t.relay = s.relay
  ports : ∀ p : PortId, Port.SameLink s.ports[p] t.ports[p]

theorem KeepsLink.refl (s : State) : KeepsLink s s := ⟨rfl, rfl, fun _ => .refl _⟩

theorem KeepsLink.trans {s t u : State} (h : KeepsLink s t) (h' : KeepsLink t u) : KeepsLink s u :=
  ⟨h'.lanes.trans h.lanes, h'.relay.trans h.relay, fun p => (h.ports p).trans (h'.ports p)⟩

theorem KeepsLink.of_ports_eq {s t : State} (lanes : t.lanes = s.lanes) (relay : t.relay = s.relay)
    (ports : t.ports = s.ports) : KeepsLink s t :=
  ⟨lanes, relay, fun p => by rw [ports]; exact .refl _⟩

/-- A change that moves neither lanes nor command slots nor ports may follow what keeps the link. -/
theorem KeepsLink.and_same {s t u : State} (h : KeepsLink s t) (lanes : u.lanes = t.lanes) (relay : u.relay = t.relay)
    (ports : u.ports = t.ports) : KeepsLink s u := h.trans (.of_ports_eq lanes relay ports)

/-- Raising conditions touches no queue and no handler. -/
theorem KeepsLink.of_raised {ks : List Kind} {s t : State} (lanes : t.lanes = s.lanes) (relay : t.relay = s.relay)
    (raised : RaisedInAll ks s t) : KeepsLink s t :=
  ⟨lanes, relay, fun p => by rw [(raised p).1]; exact .refl _⟩

theorem KeepsLink.updPort (s : State) (p : PortId) {f : Port → Port} (h : Port.SameLink s.ports[p] (f s.ports[p])) :
    KeepsLink s (s.updPort p f) := by
  refine ⟨rfl, rfl, fun q => ?_⟩
  by_cases e : q = p
  · subst e
    simpa using h
  · simpa [e] using Port.SameLink.refl _

theorem KeepsLink.updPorts (s : State) {f : PortId → Port → Port} (h : ∀ p q, Port.SameLink q (f p q)) :
    KeepsLink s (s.updPorts f) :=
  ⟨rfl, rfl, fun q => by simpa using h q s.ports[q]⟩

theorem KeepsLink.latchAll (s : State) (k : Kind) : KeepsLink s (s.latchAll k) :=
  .updPorts s fun _ _ => ⟨rfl, rfl⟩

theorem KeepsLink.latchIn (s : State) (p : PortId) (k : Kind) : KeepsLink s (s.latchIn p k) := .updPort s p ⟨rfl, rfl⟩

theorem KeepsLink.updStream (s : State) (i : StreamId) (f : StreamRecord → StreamRecord) :
    KeepsLink s (s.updStream i f) := .of_ports_eq (by simp) (by simp) (by simp)

theorem KeepsLink.setClaim (s : State) (c : Option Claim) : KeepsLink s (s.setClaim c) := .of_ports_eq rfl rfl rfl

theorem KeepsLink.startClaim (s : State) (p : PortId) : KeepsLink s (s.startClaim p) := .of_ports_eq rfl rfl rfl

theorem KeepsLink.renewClaim (s : State) (p : PortId) : KeepsLink s (s.renewClaim p) :=
  .of_ports_eq (by simp) (by simp) (by simp)

theorem KeepsLink.setCursor (s : State) (p : PortId) (c : ProfileCursor) : KeepsLink s (s.setCursor p c) :=
  .updPort s p ⟨rfl, rfl⟩

theorem KeepsLink.activate (s : State) (x : Option Nat) (d : Option Draining) : KeepsLink s (s.activate x d) := by
  unfold State.activate
  exact KeepsLink.trans (.of_ports_eq (by simp) (by simp) (by simp)) (.latchAll _ .profileSwitched)

/-! ### The timebase and its boundaries -/

theorem KeepsLink.takeSecond (s : State) (x : Nat) : KeepsLink s (s.takeSecond x) := by
  have stored : ∀ u : State, KeepsLink u (u.storeSecond x) := by
    intro u
    unfold State.storeSecond
    split
    · split
      · exact .activate u _ _
      · exact .refl u
    · exact .refl u
  have worked : KeepsLink s (s.supervisorSecond x) := .of_ports_eq (by simp) (by simp) (by simp)
  exact (worked.trans (stored _)).and_same rfl rfl rfl

theorem KeepsLink.takeDueSecond (s : State) : KeepsLink s s.takeDueSecond := by
  unfold State.takeDueSecond
  split
  · exact .takeSecond s _
  · exact .refl s

/-- Telling the ports of an overrun touches no queue and no handler (R66). -/
theorem KeepsLink.tellOverrun (s : State) (sl : Slot) : KeepsLink s (s.tellOverrun sl) := by
  refine .updPorts s fun _ q => ?_
  split <;> exact ⟨rfl, rfl⟩

theorem KeepsLink.openSlot (s : State) (e : EpochKey) : KeepsLink s (s.openSlot e).1 := by
  have claimed : ∀ c, s.claimSlot = some c → KeepsLink s c.2 := by
    intro c hc
    unfold State.claimSlot at hc
    split at hc
    · cases hc
      exact .refl s
    · split at hc
      · cases hc
        exact (KeepsLink.tellOverrun s _).and_same rfl rfl rfl
      · cases hc
  unfold State.openSlot
  split
  next g c hg hc => exact (claimed c hc).and_same rfl rfl rfl
  next => exact .of_ports_eq rfl rfl rfl

theorem KeepsLink.expireDeadlines (s : State) (es : List EpochKey) : KeepsLink s (s.expireDeadlines es) :=
  .of_ports_eq (by simp) (by simp) (by simp)

theorem KeepsLink.expireAll (s : State) : KeepsLink s s.expireAll := .expireDeadlines s _

theorem KeepsLink.epochBoundary (s : State) : KeepsLink s s.epochBoundary := by
  unfold State.epochBoundary
  split
  · split
    · exact (KeepsLink.openSlot s _).trans (.expireDeadlines _ _)
    · exact .refl s
  · exact .refl s

theorem KeepsLink.enterTimeState (s : State) (st : TimeState) : KeepsLink s (s.enterTimeState st) :=
  .of_raised (by simp) (by simp) (s.enterTimeState_raises st)

theorem KeepsLink.raiseDiscontinuity (s : State) : KeepsLink s s.raiseDiscontinuity :=
  .of_raised (by simp) (by simp) s.raiseDiscontinuity_raises

theorem KeepsLink.lock (s : State) : KeepsLink s s.lock :=
  (KeepsLink.enterTimeState s .locked).and_same rfl rfl rfl

theorem KeepsLink.stepTo (s : State) (x : Nat) : KeepsLink s (s.stepTo x) := by
  have boundaries := (KeepsLink.takeDueSecond s).trans (.epochBoundary _)
  have set : KeepsLink s (s.takeDueSecond.epochBoundary.setLocal x) := boundaries.and_same rfl rfl rfl
  have expired := (set.trans (.raiseDiscontinuity _)).trans (.expireAll _)
  exact (expired.trans (.takeSecond _ x)).trans (.epochBoundary _)

theorem KeepsLink.correct (s : State) (x : Nat) (e : Int) (w : Bool) : KeepsLink s (s.correct x e w) := by
  unfold State.correct
  split
  · exact .refl s
  split
  · exact .of_ports_eq rfl rfl rfl
  split
  · exact .stepTo s x
  · exact .of_raised (by simp) (by simp) (s.beginPause_notice _ w).2

theorem KeepsLink.ppsEdge (s : State) : KeepsLink s s.ppsEdge := by
  have unset : ∀ (u : State) x, KeepsLink u (u.applyUnset x) := by
    intro u x
    have set : KeepsLink u (u.setLocal x) := .of_ports_eq rfl rfl rfl
    have locked := set.trans (.lock _)
    have marked : KeepsLink u (if (u.setLocal x).lock.store.active.isSome then (u.setLocal x).lock.handMark
        else (u.setLocal x).lock) := by
      split
      · exact locked.and_same rfl rfl rfl
      · exact locked
    exact (marked.trans (.takeSecond _ x)).trans (.epochBoundary _)
  have set : ∀ (u : State) x e, KeepsLink u (u.applyError x e) := by
    intro u x e
    have stopped : KeepsLink u (u.setCorrection .none) := .of_ports_eq rfl rfl rfl
    unfold State.applyError
    split
    · exact (stopped.trans (.enterTimeState _ .rejected)).and_same rfl rfl rfl
    · have settled : KeepsLink u ((u.setCorrection .none).lock.settleAcceptance e) :=
        (stopped.trans (.lock _)).and_same rfl rfl rfl
      exact settled.trans (.correct _ x e _)
  unfold State.ppsEdge
  split
  · exact .refl s
  next a _ =>
    have noted : KeepsLink s (s.notePps a.1) := .of_ports_eq rfl rfl rfl
    dsimp only
    split
    · split
      · exact noted.trans (unset _ _)
      · exact noted.trans (set _ _ _)
    · exact noted

theorem KeepsLink.ppsLoss (s : State) : KeepsLink s s.ppsLoss := by
  unfold State.ppsLoss
  split
  · exact (KeepsLink.enterTimeState s .holdover).and_same rfl rfl rfl
  · exact .refl s

theorem KeepsLink.holdoverEnd (s : State) : KeepsLink s s.holdoverEnd := by
  unfold State.holdoverEnd
  split
  · exact (KeepsLink.enterTimeState s .drifting).and_same rfl rfl rfl
  · exact .refl s

theorem KeepsLink.slewEnd (s : State) : KeepsLink s s.slewEnd := by
  unfold State.slewEnd
  split <;> exact .of_ports_eq rfl rfl rfl

theorem KeepsLink.pauseEnd (s : State) : KeepsLink s s.pauseEnd := by
  unfold State.pauseEnd
  split
  · have ended (a : Acceptance) : KeepsLink s { s with
        timebase := { s.timebase with correction := .none, acceptance := a } } := .of_ports_eq rfl rfl rfl
    exact (ended _).trans (.expireAll _)
  · exact .refl s

theorem KeepsLink.timeEvent (s : State) (e : LineEvent) : KeepsLink s (s.timeEvent e) := by
  have arrival : ∀ (u : State) a, KeepsLink u (u.timeArrival a) := by
    intro u a
    cases a with
    | nothing | brokenOff => exact .refl u
    | whole bytes =>
      dsimp only [State.timeArrival]
      split <;> exact .of_ports_eq rfl rfl rfl
  have received : KeepsLink s { s with timebase := { s.timebase with
      rx := (timeReceive s.timebase.elapsed s.timebase.rx e).1 } } := .of_ports_eq rfl rfl rfl
  exact received.trans (arrival _ _)

theorem KeepsLink.timeLine (s : State) (line : List LineEvent) : KeepsLink s (s.timeLine line) := by
  have fold : ∀ (es : List LineEvent) (u : State), KeepsLink u (es.foldl State.timeEvent u) := by
    intro es
    induction es with
    | nil => exact .refl
    | cons e es ih => exact fun u => (KeepsLink.timeEvent u e).trans (ih _)
  exact fold _ s

theorem KeepsLink.tick (s : State) : KeepsLink s s.tick := .of_ports_eq rfl rfl rfl

/-! ### The table and the intake -/

theorem KeepsLink.faultReport (s : State) (i : StreamId) (k : FaultKind) : KeepsLink s (s.faultReport i k) := by
  have latchIf : ∀ (u : State) (b : Bool) (k : Kind), KeepsLink u (if b then u.latchAll k else u) := by
    intro u b k
    split
    · exact .latchAll u k
    · exact .refl u
  exact (KeepsLink.updStream s i _).trans ((latchIf _ _ _).trans (latchIf _ _ _))

theorem KeepsLink.storeRecord (s : State) (r : PlacedRecord) : KeepsLink s (s.storeRecord r) :=
  .of_ports_eq (by simp) (by simp) (by simp)

theorem KeepsLink.takeNew (s : State) (r : PlacedRecord) : KeepsLink s (s.takeNew r).1 := by
  have taken : ∀ (u : State) es, KeepsLink u ((u.storeRecord r).expireDeadlines es) := fun u es =>
    (KeepsLink.storeRecord u r).trans (.expireDeadlines _ es)
  have first : ∀ (b : Bool) (c : EpochKey), KeepsLink s (if b then s.openSlot c else (s, false)).1 := by
    intro b c
    split
    · exact .openSlot s c
    · exact .refl s
  unfold State.takeNew
  split
  · exact .refl s
  next c _ =>
    split
    · exact .refl s
    split
    · exact .refl s
    split
    · exact .refl s
    split
    · dsimp only
      split
      · exact (KeepsLink.openSlot s c).trans (taken _ _)
      · exact .openSlot s c
    · dsimp only
      generalize hf :
        (if (opens s.table.horizon c && (s.table.find c).isNone) = true then s.openSlot c else (s, false)) = o
      have opened : KeepsLink s (o.1.openSlot r.key).1 := (hf ▸ first _ c : KeepsLink s o.1).trans (.openSlot _ r.key)
      generalize (if o.2 = true then [c, r.key] else [r.key]) = es
      split
      · split
        · exact opened.trans (taken _ _)
        · exact opened.trans (.expireDeadlines _ _)
      · exact .refl s

theorem KeepsLink.tableTake (s : State) : KeepsLink s s.tableTake := by
  have record : ∀ r, KeepsLink s (s.takeRecord r).1 := by
    intro r
    unfold State.takeRecord
    split
    · exact .takeNew s r
    split
    · exact .refl s
    split
    · exact .refl s
    split
    · split
      · exact .refl s
      · have changed : KeepsLink s { s with table := s.table.modify r.key (Slot.markConflict r.stream) } :=
          .of_ports_eq rfl rfl rfl
        have marked := changed.trans (.latchAll _ .conflict)
        dsimp only
        split
        · exact marked.trans (.faultReport _ _ _)
        · exact marked
    · exact .storeRecord s r
  unfold State.tableTake
  split
  · exact .refl s
  next r _ =>
    have accepted : KeepsLink s (if (s.takeRecord r).2.accepted && r.supervised then
        (s.takeRecord r).1.acceptance r.stream r.latency r.lane r.arrivalElapsed else (s.takeRecord r).1) := by
      split
      · exact (record r).trans (.updStream _ _ _)
      · exact record r
    exact accepted.and_same rfl rfl rfl

theorem KeepsLink.applyPlacement (s : State) (pl : Placement) : KeepsLink s (s.applyPlacement pl) := by
  cases pl with
  | dropped => exact .refl s
  | unknownSource => exact .latchAll s _
  | fault sup k =>
    cases sup with
    | none => exact .refl s
    | some i => exact .faultReport s i k
  | placed r => exact .of_ports_eq rfl rfl rfl

/-! ### The profile store -/

theorem KeepsLink.claimExpiry (s : State) : KeepsLink s s.claimExpiry := by
  unfold State.claimExpiry
  split
  · split
    · exact (KeepsLink.setClaim s _).trans (.latchIn _ _ _)
    · exact .refl s
  · exact .refl s

theorem KeepsLink.beginEdit (s : State) (p : PortId) : KeepsLink s (s.beginEdit p).1 := by
  unfold State.beginEdit
  split
  · split
    · exact .startClaim s p
    · exact .refl s
  · split
    · exact .refl s
    · exact .startClaim s p

theorem KeepsLink.abandonEdit (s : State) (p : PortId) : KeepsLink s (s.abandonEdit p).1 := by
  unfold State.abandonEdit
  split
  · exact .setClaim s _
  · exact .refl s

theorem KeepsLink.profileCursor (s : State) (p : PortId) (selector : Byte) (address : BitVec 16) (mode : Byte) :
    KeepsLink s (s.profileCursor p selector address mode).1 := by
  unfold State.profileCursor
  split
  · exact (KeepsLink.renewClaim s p).trans (.setCursor _ _ _)
  · exact .renewClaim s p

theorem KeepsLink.profileGet (s : State) (p : PortId) (count : Byte) : KeepsLink s (s.profileGet p count).1 := by
  unfold State.profileGet
  dsimp only
  split
  · exact .renewClaim s p
  split
  · exact .renewClaim s p
  split
  · exact .renewClaim s p
  · exact (KeepsLink.renewClaim s p).trans (.setCursor _ _ _)

theorem KeepsLink.profilePut (s : State) (p : PortId) (values : List Word) : KeepsLink s (s.profilePut p values).1 := by
  unfold State.profilePut
  split
  · dsimp only
    split
    · exact .startClaim s p
    next b _ =>
      have written : KeepsLink s ((s.startClaim p).setStandby b) := .of_ports_eq rfl rfl rfl
      exact written.trans (.setCursor _ _ _)
  · exact .refl s

theorem KeepsLink.commitAtSecond (s : State) (p : PortId) (mode : Byte) (S : Nat) :
    KeepsLink s (s.commitAtSecond p mode S).1 := by
  unfold State.commitAtSecond State.refuseCommit
  repeat' split
  all_goals exact .of_ports_eq rfl rfl rfl

theorem KeepsLink.commitNow (s : State) (p : PortId) : KeepsLink s (s.commitNow p).1 := by
  unfold State.commitNow
  split
  · exact .refl s
  split
  · exact .startClaim s p
  split
  · exact .startClaim s p
  · have activated := (KeepsLink.setClaim s none).trans (.activate _ none none)
    exact activated.and_same (by simp) (by simp) (by simp)

theorem KeepsLink.cancelSwitch (s : State) : KeepsLink s s.cancelSwitch.1 := by
  unfold State.cancelSwitch
  split <;> exact .of_ports_eq rfl rfl rfl

/-! ### The other requests -/

theorem KeepsLink.setMask (s : State) (p : PortId) (count : Byte) (kinds : List Byte) :
    KeepsLink s (s.setMask p count kinds).1 := by
  unfold State.setMask
  split
  · exact .updPort s p ⟨rfl, rfl⟩
  · exact .refl s

theorem KeepsLink.subscribe (s : State) (p : PortId) (kinds start count : Byte) (indices : List Byte) :
    KeepsLink s (s.subscribe p kinds start count indices).1 := by
  unfold State.subscribe
  split
  · exact .updPort s p ⟨rfl, rfl⟩
  · exact .refl s

theorem KeepsLink.moveCursor (s : State) (p : PortId) (k : SnapKind) (n : Nat) :
    KeepsLink s (s.updPort p fun q => q.moveCursor k n) := .updPort s p (by cases k <;> exact ⟨rfl, rfl⟩)

theorem KeepsLink.readSnapshotNext (s : State) (p : PortId) (kind : Byte) :
    KeepsLink s (s.readSnapshotNext p kind).1 := by
  have next_ : ∀ k, KeepsLink s (s.readNext p k).1 := by
    intro k
    unfold State.readNext
    dsimp only
    split
    · exact .refl s
    split
    · exact .moveCursor s p k _
    split
    · split <;> exact .moveCursor s p k _
    · exact .moveCursor s p k _
  unfold State.readSnapshotNext
  split
  · exact .refl s
  split
  · exact next_ _
  · exact .refl s

theorem KeepsLink.readSnapshotSequence (s : State) (p : PortId) (kind target : Byte) (n : Nat) :
    KeepsLink s (s.readSnapshotSequence p kind target n).1 := by
  unfold State.readSnapshotSequence
  repeat' split
  all_goals exact .refl s

theorem KeepsLink.readStreamDetail (s : State) (index : Byte) : KeepsLink s (s.readStreamDetail index).1 := by
  unfold State.readStreamDetail
  split <;> exact .refl s

theorem KeepsLink.releaseStream (s : State) (index : Byte) : KeepsLink s (s.releaseStream index).1 := by
  unfold State.releaseStream
  split
  · exact .refl s
  split
  · exact .updStream s _ _
  · exact .refl s

theorem KeepsLink.acceptReference (s : State) : KeepsLink s s.acceptReference.1 := by
  unfold State.acceptReference
  split <;> exact .of_ports_eq rfl rfl rfl

theorem KeepsLink.clearAlignment (s : State) : KeepsLink s s.clearAlignment.1 := by
  have cleared : KeepsLink s s.tableClear.supervisorClear := .of_ports_eq (by simp) (by simp) (by simp)
  exact cleared.trans (.updPorts _ fun _ _ => ⟨rfl, rfl⟩)

theorem KeepsLink.portReset (s : State) (p : PortId) : KeepsLink s (s.portReset p).1 := by
  have released : KeepsLink s (if s.holds p then s.setClaim none else s) := by
    split
    · exact .setClaim s _
    · exact .refl s
  exact released.trans (.updPort _ p ⟨rfl, rfl⟩)

theorem KeepsLink.readConditions (s : State) (p : PortId) : KeepsLink s (s.readConditions p).1 :=
  .updPort s p ⟨rfl, rfl⟩

theorem KeepsLink.readRosterState (s : State) (p : PortId) : KeepsLink s (s.readRosterState p).1 :=
  .updPort s p ⟨rfl, rfl⟩

end Sys2Proof.Machine
end

section
/-! PROOFS. The limits of the queues, the handlers and the command slots (O58), block by block: the laws of a lane, of a
port and of the relay, what each operation on one of them keeps, and the commands assembled from these. -/

namespace Sys2Proof.Machine

/-! ### The laws of a lane -/

/-- The limits of a lane's queues (R27, R29, R38). -/
structure Lane.LinkLaws (q : Lane) : Prop where
  queue : q.queue.length ≤ 32
  recorded : q.queue.length ≤ q.deepest
  deepest : q.deepest ≤ 32
  outbound : q.outbound.length ≤ 16

theorem Lane.LinkLaws.of_same {q q' : Lane} (h : q.LinkLaws) (queue : q'.queue = q.queue) (deepest : q'.deepest = q.deepest)
    (outbound : q'.outbound = q.outbound) : q'.LinkLaws :=
  ⟨queue ▸ h.queue, queue ▸ deepest ▸ h.recorded, deepest ▸ h.deepest, outbound ▸ h.outbound⟩

theorem Lane.LinkLaws.signOfLife {q : Lane} (h : q.LinkLaws) (now : Nat) : (q.signOfLife now).LinkLaws :=
  h.of_same rfl rfl rfl

theorem Lane.LinkLaws.enqueue {q : Lane} (h : q.LinkLaws) (item : QueueItem) : (q.enqueue item).LinkLaws := by
  have deepest := h.deepest
  unfold Lane.enqueue
  split
  next room =>
    have room : q.queue.length < 32 := room
    constructor
    · simpa using room
    · simp
    · simp only
      omega
    · exact h.outbound
  next => exact h.of_same rfl rfl rfl

theorem Lane.LinkLaws.frameSent {q : Lane} (h : q.LinkLaws) : q.frameSent.LinkLaws := by
  unfold Lane.frameSent
  split
  next => exact h
  next f rest sent =>
    have outbound := h.outbound
    rw [sent, List.length_cons] at outbound
    exact ⟨h.queue, h.recorded, h.deepest, Nat.le_of_succ_le outbound⟩

theorem Lane.LinkLaws.hand {q : Lane} (h : q.LinkLaws) (f : CommandFrame) : (q.hand f).LinkLaws := by
  unfold Lane.hand
  split
  next room =>
    have room : q.outbound.length < 16 := room
    exact ⟨h.queue, h.recorded, h.deepest, by simpa using room⟩
  next => exact h.of_same rfl rfl rfl

theorem Lane.LinkLaws.dequeue {q : Lane} (h : q.LinkLaws) {item : QueueItem} {rest : List QueueItem}
    (queue : q.queue = item :: rest) : ({ q with queue := rest } : Lane).LinkLaws := by
  have length : rest.length + 1 = q.queue.length := by rw [queue, List.length_cons]
  have limit := h.queue
  have recorded := h.recorded
  exact ⟨by simp only; omega, by simp only; omega, h.deepest, h.outbound⟩

/-! ### The laws of a port -/

/-- The limits of a port's outbound queue: at most three BUSY answers wait, and the executing request's response waits
exactly while the handler has composed it (R149, R150). -/
structure Port.LinkLaws (q : Port) : Prop where
  busy : q.busyWaiting ≤ 3
  response : (q.outbound.countP fun f => f.ofRequest) = if q.handler = .responding then 1 else 0

/-- At most three BUSY answers and one response are at most four frames (R150). -/
theorem Port.LinkLaws.length_le {q : Port} (h : q.LinkLaws) : q.outbound.length ≤ 4 := by
  have busy : (q.outbound.countP fun f => !f.ofRequest) ≤ 3 := h.busy
  have response : (q.outbound.countP fun f => f.ofRequest) ≤ 1 := by
    rw [h.response]
    split <;> omega
  have total := List.length_eq_countP_add_countP (l := q.outbound) (fun f => f.ofRequest)
  simp only [Bool.not_eq_true, Bool.decide_eq_false] at total
  omega

theorem Port.LinkLaws.of_same {q q' : Port} (h : q.LinkLaws) (same : q.SameLink q') : q'.LinkLaws := by
  obtain ⟨outbound, handler⟩ := same
  constructor
  · rw [Port.busyWaiting, outbound]
    exact h.busy
  · rw [outbound, handler]
    exact h.response

/-- The handler takes a request while it is not waiting to send a response (R149). -/
theorem Port.LinkLaws.takeInHand {q : Port} (h : q.LinkLaws) (free : q.handler ≠ .responding) (c : Instr) :
    (q.takeInHand c).LinkLaws := by
  refine ⟨h.busy, ?_⟩
  have response := h.response
  rw [if_neg free] at response
  exact response

/-- A response joins the queue of a handler that is not waiting to send one (R149). -/
theorem Port.LinkLaws.respond {q : Port} (h : q.LinkLaws) (free : q.handler ≠ .responding) (tag : Byte) (r : Reply) :
    (q.respond tag r).LinkLaws := by
  have busy := h.busy
  have response := h.response
  rw [if_neg free] at response
  constructor
  · simpa [Port.respond, Port.push, Port.busyWaiting] using busy
  · simp [Port.respond, Port.push, response]

/-- A BUSY answer joins the queue only where fewer than three wait (R150). -/
theorem Port.LinkLaws.busyAnswer {q : Port} (h : q.LinkLaws) (tag : Byte) : (q.busyAnswer tag).LinkLaws := by
  unfold Port.busyAnswer
  split
  next room =>
    have room : q.busyWaiting < 3 := room
    constructor
    · simpa [Port.push, Port.busyWaiting] using room
    · exact (List.countP_append ..).trans h.response
  next => exact h.of_same ⟨rfl, rfl⟩

/-- A frame leaves the queue: the response with the handler IDLE again, or a BUSY answer (R149, R150). -/
theorem Port.LinkLaws.responseSent {q : Port} (h : q.LinkLaws) : q.responseSent.LinkLaws := by
  have busy := h.busy
  have response := h.response
  unfold Port.responseSent
  split
  next => exact h
  next f rest sent =>
    rw [Port.busyWaiting, sent, List.countP_cons] at busy
    rw [sent, List.countP_cons] at response
    constructor
    · exact Nat.le_of_add_right_le busy
    · cases request : f.ofRequest with
      | true =>
        rw [request, if_pos rfl] at response
        have last : (rest.countP fun f => f.ofRequest) = 0 := by
          split at response <;> omega
        simp [last]
      | false => simpa [request] using response

theorem Port.LinkLaws.goodFrame {q : Port} (h : q.LinkLaws) (p : PortId) (tag code : Byte) (payload : List Byte) :
    (q.goodFrame p tag code payload).LinkLaws := by
  unfold Port.goodFrame
  split
  next idle =>
    have free : q.handler ≠ .responding := by simp [idle]
    split
    · exact h.takeInHand free _
    · have counted : ({ q with takenCount := q.takenCount + 1 } : Port).LinkLaws := h.of_same ⟨rfl, rfl⟩
      exact counted.respond free tag _
  next => exact h.busyAnswer tag

theorem Port.LinkLaws.arrival {q : Port} (h : q.LinkLaws) (p : PortId) (a : Arrival) : (q.arrival p a).LinkLaws := by
  cases a with
  | nothing => exact h
  | brokenOff => exact h.of_same ⟨rfl, rfl⟩
  | whole bytes =>
    dsimp only [Port.arrival]
    split
    · exact h.goodFrame p _ _ _
    · exact h.of_same ⟨rfl, rfl⟩

theorem Port.LinkLaws.lineEvent {q : Port} (h : q.LinkLaws) (p : PortId) (now : Nat) (e : LineEvent) :
    (q.lineEvent p now e).LinkLaws := by
  refine Port.LinkLaws.arrival (h.of_same ?_) p _
  split <;> exact ⟨rfl, rfl⟩

theorem Port.LinkLaws.line {q : Port} (h : q.LinkLaws) (p : PortId) (now : Nat) (line : List LineEvent) :
    (q.line p now line).LinkLaws := by
  have fold : ∀ (es : List LineEvent) (q : Port), q.LinkLaws → (es.foldl (Port.lineEvent p now) q).LinkLaws := by
    intro es
    induction es with
    | nil => exact fun _ h => h
    | cons e es ih => exact fun q h => ih _ (h.lineEvent p now e)
  exact fold _ q h

/-! ### The laws of the relay -/

/-- No two PENDING commands are for one station, and a command's timeout is 2 s after its issue (R136, R137). -/
structure Relay.LinkLaws (r : Relay) : Prop where
  distinct : ∀ i j : StreamId, ∀ c d, r.slots[i] = some c → r.slots[j] = some d → i ≠ j → c.station ≠ d.station
  timeout : ∀ i : StreamId, ∀ c, r.slots[i] = some c → c.timeout = c.issued + 200000000

/-- Fewer PENDING commands keep the laws. -/
theorem Relay.LinkLaws.of_fewer {r r' : Relay} (h : r.LinkLaws)
    (stood : ∀ j : StreamId, ∀ c, r'.slots[j] = some c → r.slots[j] = some c) : r'.LinkLaws :=
  ⟨fun j k c d hc hd => h.distinct j k c d (stood j c hc) (stood k d hd), fun j c hc => h.timeout j c (stood j c hc)⟩

/-- One PENDING command more keeps the laws when no other PENDING command is for its station (R136, R137). -/
theorem Relay.LinkLaws.of_issue {r r' : Relay} (h : r.LinkLaws) {i : StreamId} {c : CommandSlot}
    (free : r.stationBusy i c.station = false) (timeout : c.timeout = c.issued + 200000000)
    (slot : ∀ j : StreamId, ∀ d, r'.slots[j] = some d → (j = i ∧ d = c) ∨ (j ≠ i ∧ r.slots[j] = some d)) :
    r'.LinkLaws := by
  have other : ∀ j : StreamId, ∀ d, j ≠ i → r.slots[j] = some d → d.station ≠ c.station := by
    intro j d ne hd same
    have busy := (r.stationBusy_iff i c.station).mpr ⟨j, d, ne, hd, same⟩
    rw [free] at busy
    cases busy
  constructor
  · intro j k d e hd he ne
    rcases slot j d hd with ⟨rfl, rfl⟩ | ⟨nej, hd⟩
    · rcases slot k e he with ⟨rfl, rfl⟩ | ⟨nek, he⟩
      · exact absurd rfl ne
      · exact (other k e nek he).symm
    · rcases slot k e he with ⟨rfl, rfl⟩ | ⟨nek, he⟩
      · exact other j d nej hd
      · exact h.distinct j k d e hd he ne
  · intro j d hd
    rcases slot j d hd with ⟨_, rfl⟩ | ⟨_, hd⟩
    · exact timeout
    · exact h.timeout j d hd

/-! ### The laws of the state -/

/-- The laws of every lane, of every port and of the relay. -/
structure State.LinkLaws (s : State) : Prop where
  lanes : ∀ l : LaneId, s.lanes[l].LinkLaws
  ports : ∀ p : PortId, s.ports[p].LinkLaws
  relay : s.relay.LinkLaws

theorem linkInv_iff (s : State) : LinkInv s ↔ s.LinkLaws := by
  constructor
  · rintro ⟨lanes, ports, distinct, timeout⟩
    refine ⟨fun l => ?_, fun p => ?_, ⟨distinct, timeout⟩⟩
    · obtain ⟨queue, recorded, deepest, outbound⟩ := lanes l
      exact ⟨queue, recorded, deepest, outbound⟩
    · obtain ⟨_, busy, response⟩ := ports p
      exact ⟨busy, response⟩
  · intro h
    refine ⟨fun l => ?_, fun p => ?_, h.relay.distinct, h.relay.timeout⟩
    · exact ⟨(h.lanes l).queue, (h.lanes l).recorded, (h.lanes l).deepest, (h.lanes l).outbound⟩
    · exact ⟨(h.ports p).length_le, (h.ports p).busy, (h.ports p).response⟩

theorem KeepsLink.linkLaws {s t : State} (k : KeepsLink s t) (h : s.LinkLaws) : t.LinkLaws :=
  ⟨fun l => k.lanes ▸ h.lanes l, fun p => (h.ports p).of_same (k.ports p), k.relay ▸ h.relay⟩

theorem State.LinkLaws.updLane {s : State} (h : s.LinkLaws) {l : LaneId} {f : Lane → Lane}
    (hf : (f s.lanes[l]).LinkLaws) : (s.updLane l f).LinkLaws := by
  refine ⟨fun k => ?_, h.ports, h.relay⟩
  by_cases e : k = l
  · subst e
    simpa [State.updLane] using hf
  · simpa [State.updLane, e] using h.lanes k

theorem State.LinkLaws.updPort {s : State} (h : s.LinkLaws) {p : PortId} {f : Port → Port}
    (hf : (f s.ports[p]).LinkLaws) : (s.updPort p f).LinkLaws := by
  refine ⟨h.lanes, fun q => ?_, h.relay⟩
  by_cases e : q = p
  · subst e
    simpa using hf
  · simpa [e] using h.ports q

/-- A state after a reset: every queue empty, every handler IDLE, no command PENDING. -/
theorem State.LinkLaws.of_reset {t : State} (lanes : t.lanes = State.reset.lanes) (ports : t.ports = State.reset.ports)
    (relay : t.relay = State.reset.relay) : t.LinkLaws := by
  refine ⟨fun l => ?_, fun p => ?_, ?_⟩
  · rw [lanes]
    constructor <;> simp [State.reset, Lane.reset]
  · rw [ports]
    constructor <;> simp [State.reset, Port.reset, Port.busyWaiting]
  · rw [relay]
    constructor <;> simp [State.reset, Relay.reset]

/-! ### The lanes -/

theorem State.LinkLaws.discardLaneFrame {s : State} (h : s.LinkLaws) (l : LaneId) : (s.discardLaneFrame l).LinkLaws :=
  (KeepsLink.latchAll _ _).linkLaws (h.updLane ((h.lanes l).of_same rfl rfl rfl))

theorem State.LinkLaws.validLaneFrame {s : State} (h : s.LinkLaws) (l : LaneId) (c : LaneContent) :
    (s.validLaneFrame l c).LinkLaws := by
  have queued (item : QueueItem) : (s.updLane l fun q => (q.signOfLife s.timebase.elapsed).enqueue item).LinkLaws :=
    h.updLane (((h.lanes l).signOfLife _).enqueue item)
  unfold State.validLaneFrame
  dsimp only
  split
  · exact (KeepsLink.latchAll _ _).linkLaws (queued _)
  · exact queued _

theorem State.LinkLaws.laneArrival {s : State} (h : s.LinkLaws) (l : LaneId) (a : Arrival) :
    (s.laneArrival l a).LinkLaws := by
  cases a with
  | nothing => exact h
  | brokenOff => exact h.discardLaneFrame l
  | whole bytes =>
    dsimp only [State.laneArrival]
    split
    · exact h.validLaneFrame l _
    · exact h.discardLaneFrame l

theorem State.LinkLaws.laneEvent {s : State} (h : s.LinkLaws) (l : LaneId) (e : LineEvent) :
    (s.laneEvent l e).LinkLaws := by
  have received := h.updLane (f := fun q => { q with rx := (laneReceive s.timebase.elapsed s.lanes[l].rx e).1 })
    ((h.lanes l).of_same rfl rfl rfl)
  exact received.laneArrival l _

theorem State.LinkLaws.laneLine {s : State} (h : s.LinkLaws) (l : LaneId) (line : List LineEvent) :
    (s.laneLine l line).LinkLaws := by
  have fold : ∀ (es : List LineEvent) (u : State), u.LinkLaws → (es.foldl (fun s e => s.laneEvent l e) u).LinkLaws := by
    intro es
    induction es with
    | nil => exact fun _ hu => hu
    | cons e es ih => exact fun u hu => ih _ (hu.laneEvent l e)
  exact fold _ s h

theorem State.LinkLaws.laneSilence {s : State} (h : s.LinkLaws) (l : LaneId) : (s.laneSilence l).LinkLaws := by
  unfold State.laneSilence
  split
  · exact (KeepsLink.latchAll _ _).linkLaws (h.updLane ((h.lanes l).of_same rfl rfl rfl))
  · exact h

/-! ### The command relay and the arbiter -/

/-- A slot made EMPTY (R140, R142). -/
theorem State.LinkLaws.setCommand_none {s : State} (h : s.LinkLaws) (i : StreamId) :
    (s.setCommand i none).LinkLaws := by
  refine ⟨fun l => by simpa using h.lanes l, fun p => by simpa using h.ports p, h.relay.of_fewer fun j c hc => ?_⟩
  rw [State.setCommand_relay, Fin.getElem_fin, update_get] at hc
  split at hc
  · cases hc
  · exact hc

theorem KeepsLink.handOutcome (s : State) (p : PortId) (o : CommandOutcome) : KeepsLink s (s.handOutcome p o) :=
  .updPort s p ⟨rfl, rfl⟩

theorem KeepsLink.commandEffect (s : State) (i : StreamId) (a : Action) : KeepsLink s (s.commandEffect i a) := by
  cases a with
  | halt | resume => exact .updStream s i _
  | echo => exact .refl s

theorem State.LinkLaws.timeOutCommand {s : State} (h : s.LinkLaws) (i : StreamId) (c : CommandSlot) :
    (s.timeOutCommand i c).LinkLaws := (KeepsLink.handOutcome _ _ _).linkLaws (h.setCommand_none i)

theorem State.LinkLaws.completeCommand {s : State} (h : s.LinkLaws) (i : StreamId) (c : CommandSlot) (r : AckResult)
    (arrival : Nat) : (s.completeCommand i c r arrival).LinkLaws := by
  have effect : (if s.effectApplies i c r then s.commandEffect i c.action else s).LinkLaws := by
    split
    · exact (KeepsLink.commandEffect s i c.action).linkLaws h
    · exact h
  exact (KeepsLink.handOutcome _ _ _).linkLaws (effect.setCommand_none i)

theorem State.LinkLaws.routeItem {s : State} (h : s.LinkLaws) (item : QueueItem) : (s.routeItem item).LinkLaws := by
  unfold State.routeItem
  split
  next a _ =>
    unfold State.acknowledge
    split
    · exact h.completeCommand _ _ _ _
    · exact h
  next r _ =>
    split
    · exact (KeepsLink.applyPlacement s _).linkLaws h
    · exact h

/-- The item that the arbiter takes is the head of its lane's queue (R30). -/
theorem State.nextItem_heads {s : State} {l : LaneId} {item : QueueItem} {rest : List QueueItem}
    (h : s.nextItem = some (l, item, rest)) : s.lanes[l].queue = item :: rest := by
  obtain ⟨k, _, hk⟩ := List.exists_of_findSome?_eq_some h
  split at hk
  · cases hk
  next queue =>
    cases hk
    exact queue

theorem State.LinkLaws.arbiterTake {s : State} (h : s.LinkLaws) : s.arbiterTake.LinkLaws := by
  unfold State.arbiterTake
  split
  next n _ taken =>
    obtain ⟨l, item, rest⟩ := n
    have removed := h.updLane (f := fun q => { q with queue := rest })
      ((h.lanes l).dequeue (State.nextItem_heads taken))
    have moved : (s.dequeue l rest).LinkLaws := ⟨removed.lanes, removed.ports, removed.relay⟩
    exact moved.routeItem item
  next => exact h

/-! ### The requests -/

/-- A command issued for a station that no other PENDING command is for (R136, R137). -/
theorem State.LinkLaws.issueCommand {s : State} (h : s.LinkLaws) (p : PortId) {i : StreamId} (a : Action) (l : LaneId)
    {station : Nat} (free : s.relay.stationBusy i station = false) : (s.issueCommand p i a l station).LinkLaws := by
  have handed := h.updLane (f := Lane.hand { station := station, tag := s.relay.tags[i], action := a })
    ((h.lanes l).hand _)
  refine ⟨handed.lanes, h.ports, h.relay.of_issue (i := i)
    (c :=
      { action := a
        port := p
        station := station
        tag := s.relay.tags[i]
        lane := l
        issued := s.timebase.elapsed
        timeout := s.after commandTime })
    free rfl fun j d hd => ?_⟩
  rw [State.issueCommand, Fin.getElem_fin, update_get] at hd
  split at hd
  next e => exact .inl ⟨e, (Option.some.inj hd).symm⟩
  next e => exact .inr ⟨e, hd⟩

/-- STREAM COMMAND issues a command after its checks, or changes nothing (R136). -/
theorem State.LinkLaws.streamCommand {s : State} (h : s.LinkLaws) (p : PortId) (index action : Byte) :
    (s.streamCommand p index action).1.LinkLaws := by
  unfold State.streamCommand
  split
  · split
    · exact h
    split
    · exact h
    split
    · exact h
    split
    · exact h
    next free =>
      split
      · exact h
      · exact h.issueCommand p _ _ (by simpa using free)
  · exact h

/-- STREAM COMMAND touches no port. -/
theorem State.streamCommand_ports (s : State) (p : PortId) (index action : Byte) :
    (s.streamCommand p index action).1.ports = s.ports := by
  unfold State.streamCommand
  repeat' split
  all_goals rfl

/-- A request served by an owner that keeps the laws and the handler keeps the laws (R149, R150). -/
theorem State.LinkLaws.serve {s : State} (h : s.LinkLaws) {p : PortId} {owner : State → State × Reply}
    (laws : ∀ u : State, u.LinkLaws → (owner u).1.LinkLaws)
    (handler : ∀ u : State, (owner u).1.ports[p].handler = u.ports[p].handler) (c : Instr) (tag : Byte) :
    (s.serve c p tag owner).LinkLaws := by
  have answer : ∀ u : State, u.LinkLaws → u.ports[p].handler ≠ .responding → (u.answer p tag owner).LinkLaws :=
    fun u hu free => (laws u hu).updPort (((laws u hu).ports p).respond (by rwa [handler u]) tag _)
  unfold State.serve
  split
  next idle =>
    have taken := h.updPort ((h.ports p).takeInHand (by rw [idle]; exact Handler.noConfusion) c)
    exact answer _ taken (by simp [Port.takeInHand])
  next d inHand =>
    split
    · exact answer s h (by rw [inHand]; exact Handler.noConfusion)
    · exact h.updPort ((h.ports p).busyAnswer tag)
  next => exact h.updPort ((h.ports p).busyAnswer tag)

/-! ### The commands -/

/-- A command whose effect keeps the laws keeps them, in a reset or out of it. -/
theorem State.LinkLaws.after_command {s t : State} {f : State → State} (h : s.LinkLaws)
    (ht : Host.Outcome.next (s.whileOperating f) = (.next t : Host.Outcome State Fault Refusal))
    (kept : (f s).LinkLaws) : t.LinkLaws := Host.Outcome.next.inj ht ▸ State.whileOperating_preserves h kept

/-- A command whose effect leaves the link alone keeps the laws. -/
theorem State.LinkLaws.after_keeping {s t : State} {f : State → State} (h : s.LinkLaws)
    (ht : Host.Outcome.next (s.whileOperating f) = (.next t : Host.Outcome State Fault Refusal))
    (kept : KeepsLink s (f s)) : t.LinkLaws := h.after_command ht (kept.linkLaws h)

/-- A request whose owner leaves the link alone keeps the laws. -/
theorem State.LinkLaws.after_request {s t : State} {c : Instr} {p : PortId} {tag : Byte} {owner : State → State × Reply}
    (h : s.LinkLaws) (ht : serveStep c p tag owner s = .next t) (kept : ∀ u, KeepsLink u (owner u).1) : t.LinkLaws :=
  h.after_command ht (h.serve (fun u hu => (kept u).linkLaws hu) (fun u => ((kept u).ports p).2) c tag)

/-- Every command keeps the laws of the queues, the handlers and the command slots. -/
theorem exec_linkLaws {c : Instr} {s t : State} (h : s.LinkLaws) (ht : exec c s = .next t) : t.LinkLaws := by
  cases c with
  | powerOn | supplyBelowLimit | resetLine => exact Host.Outcome.next.inj ht ▸ .of_reset rfl rfl rfl
  | powerOnExit | resetLineRelease =>
    obtain rfl := Host.Outcome.next.inj ht
    refine KeepsLink.linkLaws ?_ h
    split <;> exact .of_ports_eq rfl rfl rfl
  | timeMessage line => exact h.after_keeping ht (.timeLine s line)
  | ppsEdge => exact h.after_keeping ht (.ppsEdge s)
  | ppsLossTimerExpiry => exact h.after_keeping ht (.ppsLoss s)
  | holdoverLimitExpiry => exact h.after_keeping ht (.holdoverEnd s)
  | slewEnd => exact h.after_keeping ht (.slewEnd s)
  | pauseEnd => exact h.after_keeping ht (.pauseEnd s)
  | secondBoundary => exact h.after_keeping ht (.takeDueSecond s)
  | epochBoundary =>
    refine h.after_keeping ht ?_
    split
    · exact .refl s
    · exact .epochBoundary s
  | fastDeadlineExpiry e => exact h.after_keeping ht (.of_ports_eq (by simp) (by simp) (by simp))
  | fullDeadlineExpiry e => exact h.after_keeping ht (.of_ports_eq (by simp) (by simp) (by simp))
  | drainingEnd =>
    refine h.after_keeping ht (.of_ports_eq ?_ ?_ ?_) <;> simp
  | laneFrameArrival l line => exact h.after_command ht (h.laneLine l line)
  | laneSilenceTimerExpiry l => exact h.after_command ht (h.laneSilence l)
  | commandFrameSent l => exact h.after_command ht (h.updLane (h.lanes l).frameSent)
  | arbiterTake => exact h.after_command ht h.arbiterTake
  | tableTakeRecord => exact h.after_keeping ht (.tableTake s)
  | commandTimeout i =>
    refine h.after_command ht ?_
    split
    · split
      · exact h.timeOutCommand i _
      · exact h
    · exact h
  | streamSilenceTimerExpiry i | quietTimerExpiry i =>
    refine h.after_keeping ht ?_
    split
    · exact .updStream s i _
    · exact .refl s
  | claimTimerExpiry => exact h.after_keeping ht (.claimExpiry s)
  | requestFrameArrival p line => exact h.after_command ht (h.updPort ((h.ports p).line p _ line))
  | responseSent p => exact h.after_command ht (h.updPort (h.ports p).responseSent)
  | status p tag => exact h.after_request ht fun u => .refl u
  | readConditions p tag => exact h.after_request ht fun u => .readConditions u p
  | setMask p tag count kinds =>
    exact h.after_request ht fun u => orMalformed_preserves (.refl u) (.setMask u p count kinds)
  | subscribe p tag kinds start count indices =>
    exact h.after_request ht fun u => orMalformed_preserves (.refl u) (.subscribe u p kinds start count indices)
  | readSnapshotNext p tag kind unused => exact h.after_request ht fun u => .readSnapshotNext u p kind
  | readSnapshotSequence p tag kind target seq =>
    exact h.after_request ht fun u => .readSnapshotSequence u p kind target seq.toNat
  | readRosterState p tag => exact h.after_request ht fun u => .readRosterState u p
  | readStreamDetail p tag index => exact h.after_request ht fun u => .readStreamDetail u index
  | readWorstLatency p tag => exact h.after_request ht fun u => .refl u
  | readLanes p tag => exact h.after_request ht fun u => .refl u
  | profileCursor p tag selector address mode =>
    exact h.after_request ht fun u => .profileCursor u p selector address mode
  | profileGet p tag count => exact h.after_request ht fun u => .profileGet u p count
  | profilePut p tag values =>
    exact h.after_request ht fun u => orMalformed_preserves (.refl u) (.profilePut u p values)
  | beginEdit p tag => exact h.after_request ht fun u => .beginEdit u p
  | abandonEdit p tag => exact h.after_request ht fun u => .abandonEdit u p
  | commitSwitchAtSecond p tag mode second => exact h.after_request ht fun u => .commitAtSecond u p mode second.toNat
  | commitSwitchNow p tag ignored => exact h.after_request ht fun u => .commitNow u p
  | cancelSwitch p tag => exact h.after_request ht .cancelSwitch
  | streamCommand p tag index action =>
    exact h.after_command ht (h.serve (fun u hu => hu.streamCommand p index action)
      (fun u => by rw [u.streamCommand_ports]) _ tag)
  | releaseStream p tag index => exact h.after_request ht fun u => .releaseStream u index
  | acceptReference p tag => exact h.after_request ht .acceptReference
  | clearAlignment p tag => exact h.after_request ht .clearAlignment
  | portReset p tag => exact h.after_request ht fun u => .portReset u p

/-- The idle part keeps the laws. -/
theorem State.LinkLaws.idle {s : State} (h : s.LinkLaws) : s.idle.LinkLaws := by
  unfold State.idle
  split
  · exact State.whileOperating_preserves h ((KeepsLink.tick s).linkLaws h)
  · exact ⟨h.lanes, h.ports, h.relay⟩

/-- Settles O58: each command, and the idle step, keeps the laws of the queues, the handlers and the command slots. -/
theorem linkInvariant : Obligations.LinkInvariant := by
  unfold Obligations.LinkInvariant
  intro s t inv ht
  have h := (linkInv_iff s).mp inv
  refine (linkInv_iff t).mpr ?_
  unfold step at ht
  split at ht
  next => exact Host.Outcome.next.inj ht ▸ h.idle
  next c rest pending => exact exec_linkLaws (s := { s with pending := rest }) ⟨h.lanes, h.ports, h.relay⟩ ht

end Sys2Proof.Machine
end

section
/-! PROOFS. The outcomes of the placement unit in the order of R58: the checks on a record of a found stream, the checks on
the grid, and the fault that a supervised stream takes (R42 to R53, R94, R96). -/

namespace Sys2Proof.Machine

/-! ### A fault taken by the supervisor -/

theorem State.faultReport_supervisor (s : State) (i : StreamId) (k : FaultKind) : (s.faultReport i k).supervisor =
    { s.supervisor with
      streams := update s.supervisor.streams i (StreamRecord.fault s.timebase.elapsed k) } := by
  unfold State.faultReport
  dsimp only
  split <;> split <;> simp

/-- A kind that is raised on a condition. -/
theorem State.latchAll_if_raises (s : State) (c : Bool) (k : Kind) :
    RaisedInAll (if c then [k] else []) s (if c then s.latchAll k else s) := by
  cases c
  · exact .of_ports_eq rfl
  · exact s.latchAll_raises k

/-- STREAM_FAULT is raised for a fault that the health lets latch, and STREAM_QUARANTINED at the fault limit (R94, R96). -/
theorem State.faultReport_raises (s : State) (i : StreamId) (k : FaultKind) :
    RaisedInAll ((if s.supervisor.streams[i].health.faultLatches then [.streamFault] else []) ++
      if s.supervisor.streams[i].atLimit then [.streamQuarantined] else []) s (s.faultReport i k) :=
  ((State.latchAll_if_raises _ _ _).trans (State.latchAll_if_raises _ _ _)).of_same_ports
    (State.updStream_ports s i _)

theorem Health.faultLatches_of_judged {h : Health} (judged : h.judged = true) : h.faultLatches = true := by
  revert judged
  cases h <;> decide

/-- A judged stream is at the limit with its third fault counted (R94). -/
theorem StreamRecord.atLimit_of_judged {r : StreamRecord} (judged : r.health.judged = true) :
    r.atLimit = true ↔ r.faultCount = 3 := by
  simp [StreamRecord.atLimit, judged, faultLimit]

/-- The record of a judged stream after a fault, by whether it is the fourth (R94, R96). -/
theorem faulted_of_judged (now : Nat) (k : FaultKind) {r : StreamRecord} (judged : r.health.judged = true) :
    faulted now k r = if r.faultCount = 3 then
      { r with
        health := .quarantined
        faultCount := 4
        lastFault := some k
        quietTimer := none
        silenceTimer := none
        missStreak := 0
        onTimeStreak := 0 }
    else
      { r with
        faultCount := r.faultCount + 1
        lastFault := some k
        quietTimer := some (now + 6000000000) } := by
  unfold faulted
  cases health : r.health <;> simp_all [Health.judged]

/-- A fault report for a judged stream below the fault limit is a fault taken, from any state with the same supervisor,
elapsed time and ports (R94, R96). -/
theorem State.faultReport_takesFault {s u : State} {i : StreamId} (k : FaultKind) (supervisor : u.supervisor = s.supervisor)
    (timebase : u.timebase = s.timebase) (ports : u.ports = s.ports)
    (judged : s.supervisor.streams[i].health.judged = true) (below : s.supervisor.streams[i].faultCount < 4) :
    TakesFault k i s u (u.faultReport i k) := by
  have streams := (u.faultReport_supervisor i k).trans (by rw [supervisor, timebase])
  have record : (u.faultReport i k).supervisor.streams[i] = faulted s.timebase.elapsed k s.supervisor.streams[i] := by
    rw [streams, Fin.getElem_fin, update_get_self, ← StreamRecord.fault_eq _ _ _ fun _ => Nat.le_of_lt_succ below]
    rfl
  rw [faulted_of_judged _ _ judged] at record
  have raised := (u.faultReport_raises i k).of_same_ports ports
  rw [supervisor, Health.faultLatches_of_judged judged] at raised
  refine ⟨?_, fun j other => ?_, fun early => ?_, fun fourth => ?_⟩
  · ext1 <;> simp [streams]
  · rw [streams]
    exact update_get_ne _ _ other
  · rw [if_neg (by omega)] at record
    have notLimit : ¬ s.supervisor.streams[i].atLimit = true := fun limit => by
      have third := (StreamRecord.atLimit_of_judged judged).mp limit
      omega
    rw [if_neg notLimit] at raised
    exact ⟨record, raised⟩
  · rw [if_pos fourth] at record
    rw [if_pos ((StreamRecord.atLimit_of_judged judged).mpr fourth)] at raised
    exact ⟨record, raised⟩

/-! ### The checks in their order -/

/-- A station code that no enabled stream has is not found (R43). -/
theorem Bank.lookup_none {b : Bank} {code : Nat} (unknown : ∀ i : StreamId, b.enabled i = true → b.station i ≠ code) :
    b.lookup code = none := by
  unfold Bank.lookup
  split
  · rfl
  · simpa [allStreams] using unknown

/-- A record without a placement bank is dropped (R42). -/
theorem State.place_nowhere {s : State} {r : Record} (nowhere : ∀ a, ¬ PlacementBank s.store a r.second.toNat)
    (item : QueueItem) (arrival : LocalTime) : s.place item arrival r = .dropped := by
  have none : s.store.placementBank r.second.toNat = none :=
    Option.eq_none_iff_forall_ne_some.mpr fun a home => nowhere a ((s.store.placementBank_iff a _).mp home)
  rw [State.place, none]

/-- A record of a station that the placement bank does not enable is of an unknown source (R43). -/
theorem State.place_unknown {s : State} {b : BankId} {r : Record} (home : PlacementBank s.store b r.second.toNat)
    (unknown : ∀ i : StreamId, (s.store.bank b).enabled i = true → (s.store.bank b).station i ≠ r.station.toNat)
    {item : QueueItem} {arrival : LocalTime} : s.place item arrival r = .unknownSource := by
  rw [State.place, (s.store.placementBank_iff b _).mpr home]
  dsimp only
  rw [Bank.lookup_none unknown]

/-- A record whose bank and stream are found goes on to the checks (R42, R43). -/
theorem State.place_found {s : State} {b : BankId} {i : StreamId} {r : Record}
    (home : PlacementBank s.store b r.second.toNat) (found : (s.store.bank b).lookup r.station.toNat = some i)
    (item : QueueItem) (arrival : LocalTime) : s.place item arrival r = s.placeFound b i item arrival r := by
  rw [State.place, (s.store.placementBank_iff b _).mpr home]
  dsimp only
  rw [found]

/-- The stream that index `i` of bank `b` stands for takes no records: it is QUARANTINED or HALTED (R45). -/
def State.Bars (s : State) (b : BankId) (i : StreamId) : Prop :=
  Supervised s.store b i ∧ (s.supervisor.streams[i].health = .quarantined ∨ s.supervisor.streams[i].health = .halted)

theorem timeSound_iff (r : Record) : TimeSound r ↔ ¬ (r.quality = 15 ∨ nsPerSecond ≤ r.fraction.toNat) := by
  rw [not_or, Nat.not_le]
  rfl

theorem shapeFits_iff (b : Bank) (i : StreamId) (r : Record) :
    ShapeFits b i r ↔ ¬ (r.phasors.length ≠ b.phasorCount i ∨ r.analogs.length ≠ b.analogCount i) := by
  rw [not_or, not_not, not_not]
  rfl

theorem sound_iff (b : Bank) (i : StreamId) (r : Record) : Sound b i r ↔ TimeSound r ∧ ShapeFits b i r ∧
    ¬ withinTolerance r.fraction.toNat (b.streamRate i) b.tolerance = false := by
  rw [Bool.not_eq_false, withinTolerance_iff]
  rfl

/-- The checks on a record of a found stream: the health, the time, the shape and the tolerance, the first that fails
giving the drop or the fault, and the grid for a sound record (R45, R47, R48, R51, R58). -/
theorem State.placeFound_checks (s : State) (b : BankId) (i : StreamId) (item : QueueItem) (arrival : LocalTime)
    (r : Record) :
    (s.Bars b i → s.placeFound b i item arrival r = .dropped) ∧
    (¬ s.Bars b i → ¬ TimeSound r →
      s.placeFound b i item arrival r = .fault (s.store.supervisedStream b i) .timeInvalid) ∧
    (¬ s.Bars b i → TimeSound r → ¬ ShapeFits (s.store.bank b) i r →
      s.placeFound b i item arrival r = .fault (s.store.supervisedStream b i) .shape) ∧
    (¬ s.Bars b i → TimeSound r → ShapeFits (s.store.bank b) i r → ¬ Sound (s.store.bank b) i r →
      s.placeFound b i item arrival r = .fault (s.store.supervisedStream b i) .offGrid) ∧
    (¬ s.Bars b i → Sound (s.store.bank b) i r →
      s.placeFound b i item arrival r = s.placeOnGrid b i item arrival r) := by
  rw [sound_iff, timeSound_iff, shapeFits_iff, State.Bars, ← ProfileStore.supervisedStream_isSome]
  unfold State.placeFound
  dsimp only
  refine ⟨fun bars => ?_, fun free time => ?_, fun free time shape => ?_, fun free time shape far => ?_,
    fun free ⟨time, shape, near⟩ => ?_⟩
  · rw [if_pos bars]
  · rw [if_neg free, if_pos (not_not.mp time)]
  · rw [if_neg free, if_neg time, if_pos (not_not.mp shape)]
  · rw [if_neg free, if_neg time, if_neg shape, if_pos (by_contra fun near => far ⟨time, shape, near⟩)]
  · rw [if_neg free, if_neg time, if_neg shape, if_neg near]

/-- The checks on the grid: a rollover past the end of the era is a fault, one into a second of another bank a drop, a
record between the grid's points a drop, and one for an epoch ahead a fault (R50, R52, R53, R58). -/
theorem State.placeOnGrid_checks (s : State) (b : BankId) (i : StreamId) (item : QueueItem) (arrival : LocalTime)
    (r : Record) :
    (gridOf ((s.store.bank b).streamRate i) r = (s.store.bank b).streamRate i → r.second.toNat = 4294967295 →
      s.placeOnGrid b i item arrival r = .fault (s.store.supervisedStream b i) .ahead) ∧
    (gridOf ((s.store.bank b).streamRate i) r = (s.store.bank b).streamRate i → r.second.toNat ≠ 4294967295 →
      ¬ PlacementBank s.store b (r.second.toNat + 1) → s.placeOnGrid b i item arrival r = .dropped) ∧
    ((gridOf ((s.store.bank b).streamRate i) r = (s.store.bank b).streamRate i → r.second.toNat ≠ 4294967295) →
      (∀ e, ¬ OnEpoch (s.store.bank b) i r e) → s.placeOnGrid b i item arrival r = .dropped) ∧
    (∀ e, RollsWithin s.store b ((s.store.bank b).streamRate i) r → OnEpoch (s.store.bank b) i r e →
      s.isAhead e = true → s.placeOnGrid b i item arrival r = .fault (s.store.supervisedStream b i) .ahead) := by
  have grid : gridIndex r.fraction.toNat ((s.store.bank b).streamRate i) = gridOf ((s.store.bank b).streamRate i) r := rfl
  unfold State.placeOnGrid RollsWithin OnEpoch
  simp only [grid, beq_iff_eq, lastSecond, ← ProfileStore.placementBank_iff, ← epochIndex_iff]
  generalize gridOf ((s.store.bank b).streamRate i) r = j
  generalize (s.store.bank b).streamRate i = rate
  generalize (if j = rate then 0 else j) = onGrid
  generalize hx : (if j = rate then r.second.toNat + 1 else r.second.toNat) = x
  have next_ : j = rate → r.second.toNat + 1 = x := fun rolls => by rw [← hx, if_pos rolls]
  refine ⟨fun rolls last => ?_, fun rolls inEra foreign => ?_, fun inEra between => ?_, fun e own on ahead => ?_⟩
  · rw [if_pos ⟨rolls, last⟩]
  · rw [if_neg fun past => inEra past.2, if_pos ⟨rolls, next_ rolls ▸ foreign⟩]
  · rw [if_neg fun past => inEra past.1 past.2]
    have off : epochIndex (s.store.bank b).rate rate onGrid = none :=
      Option.eq_none_iff_forall_ne_some.mpr fun k index => between ⟨x, k⟩ ⟨rfl, index⟩
    split
    · rfl
    · rw [off]
  · obtain ⟨rfl, index⟩ := on
    rw [if_neg fun past => (own past.1).1 past.2, if_neg fun foreign => foreign.2 (next_ foreign.1 ▸ (own foreign.1).2),
      index]
    exact if_pos ahead

/-! ### The obligation -/

/-- A fault of a stream that takes records is dropped for a stream without supervision, and taken by a judged one (R44,
R46, R94). -/
theorem State.applyPlacement_fault {s u : State} {b : BankId} {i : StreamId} {k : FaultKind} {pl : Placement}
    (same : u.supervisor = s.supervisor ∧ u.timebase = s.timebase ∧ u.ports = s.ports ∧ u.store = s.store)
    (placed : ¬ u.Bars b i → pl = .fault (u.store.supervisedStream b i) k) :
    (¬ Supervised s.store b i → u.applyPlacement pl = u) ∧
    (Supervised s.store b i → s.supervisor.streams[i].health.judged = true → s.supervisor.streams[i].faultCount < 4 →
      TakesFault k i s u (u.applyPlacement pl)) := by
  obtain ⟨supervisor, timebase, ports, store⟩ := same
  rw [State.Bars, ProfileStore.supervisedStream, store, supervisor] at placed
  constructor
  · intro alone
    rw [placed fun bars => alone bars.1, if_neg fun sup => alone ((s.store.supervised_iff b i).mp sup)]
    rfl
  · intro sup judged below
    have free : ¬ (s.supervisor.streams[i].health = .quarantined ∨ s.supervisor.streams[i].health = .halted) := by
      rintro (health | health) <;> rw [health] at judged <;> cases judged
    rw [placed fun bars => free bars.2, if_pos ((s.store.supervised_iff b i).mpr sup)]
    exact State.faultReport_takesFault k supervisor timebase ports judged below

/-- Settles O27: the checks in their order, each with its drop, its condition or its fault. -/
theorem faultsCountedAndQuarantined : Obligations.FaultsCountedAndQuarantined := by
  unfold Obligations.FaultsCountedAndQuarantined
  intro s l item rest r arrival now b on serves content stamped set active
  obtain ⟨a, active⟩ := Option.isSome_iff_exists.mp active
  have run : exec .arbiterTake s =
      .next ((afterTake s l rest).applyPlacement ((afterTake s l rest).place item arrival r)) := by
    rw [← State.routeItem_places (s := afterTake s l rest) content stamped active set, ← State.arbiterTake_serves serves]
    exact congrArg _ (State.whileOperating_on on _)
  have drop : (afterTake s l rest).place item arrival r = .dropped → exec .arbiterTake s = .next (afterTake s l rest) :=
    fun placed => by rw [run, placed]; rfl
  refine ⟨fun nowhere => drop (State.place_nowhere nowhere item arrival), fun home => ⟨fun unknown => ?_, ?_⟩⟩
  · rw [State.place_unknown (s := afterTake s l rest) home unknown] at run
    exact ⟨_, run, by ext1 <;> simp [State.applyPlacement], (afterTake s l rest).latchAll_raises _⟩
  intro i passes enabled station before rate rolls fault
  have place : (afterTake s l rest).place item arrival r = (afterTake s l rest).placeFound b i item arrival r :=
    State.place_found home (station ▸ (s.store.bank b).lookup_station passes enabled) item arrival
  obtain ⟨health, time, shape, tolerance, grid⟩ := (afterTake s l rest).placeFound_checks b i item arrival r
  obtain ⟨pastEra, foreign, between, ahead⟩ := (afterTake s l rest).placeOnGrid_checks b i item arrival r
  have barred : (afterTake s l rest).Bars b i → exec .arbiterTake s = .next (afterTake s l rest) := fun bars =>
    drop (place.trans (health bars))
  have faults : ∀ k, (¬ (afterTake s l rest).Bars b i → (afterTake s l rest).placeFound b i item arrival r =
      .fault (s.store.supervisedStream b i) k) → fault k := fun k found => by
    obtain ⟨alone, taken⟩ := State.applyPlacement_fault (s := s) (u := afterTake s l rest) ⟨rfl, rfl, rfl, rfl⟩ found
    rw [← place] at alone taken
    exact ⟨fun none => run.trans (congrArg _ (alone none)), fun sup judged below => ⟨_, run, taken sup judged below⟩⟩
  have drops : Sound (s.store.bank b) i r → (afterTake s l rest).placeOnGrid b i item arrival r = .dropped →
      exec .arbiterTake s = .next (afterTake s l rest) := fun sound off =>
    (Classical.em _).elim barred fun free => drop (place.trans ((grid free sound).trans off))
  refine ⟨fun sup unfit => barred ⟨sup, unfit⟩, ?_, ?_, ?_, ?_, ?_, ?_, ?_⟩
  · exact fun bad => faults _ fun free => time free bad
  · exact fun good misfit => faults _ fun free => shape free good misfit
  · exact fun good fits far => faults _ fun free => tolerance free good fits far
  · exact fun sound rolls last => faults _ fun free => (grid free sound).trans (pastEra rolls last)
  · exact fun sound rolls inEra other => drops sound (foreign rolls inEra other)
  · exact fun sound inEra off => drops sound (between inEra off)
  · intro g v e sound own onEpoch governs newer
    have isAhead := (State.isAhead_eq (s := afterTake s l rest) set ((ProfileStore.governing_iff _ _ _ _).mpr governs) e).mpr
      newer
    exact faults _ fun free => (grid free sound).trans (ahead e own onEpoch isAhead)

end Sys2Proof.Machine
end

section
/-! PROOFS. A placed record stored in its slot: readiness judged, the cuts that the release pass gives or holds back, and
the acceptance of its stream (R58, R71, R72, R76, R77, R80, R92, R93, R102). -/

namespace Sys2Proof.Machine

/-! ### No slot waits behind a release pass -/

/-- Of slots given by whether they are cut and whether they are ready, none that is ready lacks its cut behind slots that
are all cut (R80). -/
def Prompt : List (Bool × Bool) → Prop
  | [] => True
  | x :: l => (x.2 = true → x.1 = true) ∧ (x.1 = true → Prompt l)

theorem Prompt.at_split {f : Slot → Bool × Bool} {pre post : List Slot} {sl : Slot}
    (h : Prompt ((pre ++ sl :: post).map f)) (cut : ∀ o ∈ pre, (f o).1 = true) (ready : (f sl).2 = true) :
    (f sl).1 = true := by
  induction pre with
  | nil => exact h.1 ready
  | cons x pre ih => exact ih (h.2 (cut x List.mem_cons_self)) fun o ho => cut o (List.mem_cons_of_mem x ho)

/-- Whether a slot holds its fast cut, and whether it is ready for it (R81). -/
def Slot.fastFlags (sl : Slot) : Bool × Bool := (sl.fastCut.isSome, sl.fastReady.isSome)

/-- Whether a slot holds its full cut, and whether it is ready for it, behind its fast cut (R82). -/
def Slot.fullFlags (sl : Slot) : Bool × Bool := (sl.fullCut.isSome, sl.fastCut.isSome && sl.fullReady.isSome)

theorem Released.of_prompt {slots : List Slot} (fast : Prompt (slots.map Slot.fastFlags))
    (full : Prompt (slots.map Slot.fullFlags)) : Released slots := by
  rintro pre post sl rfl
  exact ⟨fast.at_split, fun cut fastCut ready => full.at_split cut (by simp [Slot.fullFlags, fastCut, ready])⟩

theorem fastPass_prompt (l : List Slot) : ∀ n, Prompt ((fastPass l n).1.map Slot.fastFlags) := by
  induction l with
  | nil => exact fun _ => trivial
  | cons sl l ih =>
    intro n
    unfold fastPass
    split
    next cut => exact ⟨fun _ => by simp [Slot.fastFlags, cut], fun _ => ih n⟩
    next cut ready => exact ⟨by simp [Slot.fastFlags, ready], by simp [Slot.fastFlags, cut]⟩
    next => exact ⟨fun _ => rfl, fun _ => ih (n + 1)⟩

theorem fullPass_prompt (l : List Slot) : ∀ n, Prompt ((fullPass l n).1.map Slot.fullFlags) := by
  induction l with
  | nil => exact fun _ => trivial
  | cons sl l ih =>
    intro n
    unfold fullPass
    split
    next cut => exact ⟨fun _ => by simp [Slot.fullFlags, cut], fun _ => ih n⟩
    next => exact ⟨fun _ => rfl, fun _ => ih (n + 1)⟩
    next cut unready =>
      refine ⟨fun ready => ?_, by simp [Slot.fullFlags, cut]⟩
      obtain ⟨fastCut, fullReady⟩ := Bool.and_eq_true_iff.mp ready
      obtain ⟨c, hc⟩ := Option.isSome_iff_exists.mp fullReady
      obtain ⟨d, hd⟩ := Option.isSome_iff_exists.mp fastCut
      exact absurd hd (unready c d hc)

/-- After a release pass no slot waits for a cut that the pass would give it (R80). -/
theorem AlignTable.release_released (t : AlignTable) : Released t.release.slots := by
  refine .of_prompt ?_ (fullPass_prompt _ _)
  rw [AlignTable.release, fullPass_map Slot.fastFlags fun _ _ => rfl]
  exact fastPass_prompt _ _

/-! ### The cuts of one slot -/

/-- What the first part of a release pass makes of a slot behind others: the next number when all of them are cut and the
slot is ready, and nothing when one of them is neither cut nor ready (R80, R81). -/
theorem fastPass_slot (pre : List Slot) (x : Slot) (post : List Slot) : ∀ n, ∃ pre' y post',
    (fastPass (pre ++ x :: post) n).1 = pre' ++ y :: post' ∧ pre'.map Slot.fullCut = pre.map Slot.fullCut ∧
      y = { x with fastCut := y.fastCut } ∧
      ((∀ o ∈ pre, o.fastCut.isSome = true) → x.fastCut = none → y.fastCut = x.fastReady.map fun c => ⟨c, n⟩) ∧
      ((∃ o ∈ pre, o.fastCut = none ∧ o.fastReady = none) → y.fastCut = x.fastCut) := by
  induction pre with
  | nil =>
    intro n
    rw [List.nil_append]
    unfold fastPass
    split
    next cut => exact ⟨[], x, _, rfl, rfl, rfl, by simp [cut], by simp⟩
    next cut ready => exact ⟨[], x, _, rfl, rfl, rfl, by simp [cut, ready], by simp⟩
    next c cut ready => exact ⟨[], _, _, rfl, rfl, rfl, by simp [ready], by simp⟩
  | cons o pre ih =>
    intro n
    rw [List.cons_append]
    unfold fastPass
    split
    next cut =>
      obtain ⟨pre', y, post', whole, same, frame, next_, held⟩ := ih n
      exact ⟨o :: pre', y, post', by simp [whole], by simp [same], frame,
        fun all => next_ fun o' mem => all o' (List.mem_cons_of_mem o mem), fun waits => held (by simpa [cut] using waits)⟩
    next cut ready => exact ⟨o :: pre, x, post, rfl, rfl, rfl, by simp [cut], fun _ => rfl⟩
    next c cut ready =>
      obtain ⟨pre', y, post', whole, same, frame, -, held⟩ := ih (n + 1)
      exact ⟨_ :: pre', y, post', by rw [whole]; rfl, by simp [same], frame, by simp [cut],
        fun waits => held (by simpa [ready] using waits)⟩

/-- What the second part of a release pass makes of a slot behind others that are all cut (R80, R82). -/
theorem fullPass_slot (pre : List Slot) (x : Slot) (post : List Slot) : ∀ n, ∃ y ∈ (fullPass (pre ++ x :: post) n).1,
    y = { x with fullCut := y.fullCut } ∧
      ((∀ o ∈ pre, o.fullCut.isSome = true) → x.fullCut = none → x.fastCut.isSome = true →
        y.fullCut = x.fullReady.map fun c => ⟨c, n⟩) := by
  induction pre with
  | nil =>
    intro n
    rw [List.nil_append]
    unfold fullPass
    split
    next cut => exact ⟨x, List.mem_cons_self, rfl, by simp [cut]⟩
    next c _ cut ready fastCut => exact ⟨_, List.mem_cons_self, rfl, by simp [ready]⟩
    next cut unready =>
      refine ⟨x, List.mem_cons_self, rfl, fun _ _ fastCut => ?_⟩
      obtain ⟨d, hd⟩ := Option.isSome_iff_exists.mp fastCut
      cases ready : x.fullReady with
      | none => exact cut
      | some c => exact absurd hd (unready c d ready)
  | cons o pre ih =>
    intro n
    rw [List.cons_append]
    unfold fullPass
    split
    next cut =>
      obtain ⟨y, mem, frame, next_⟩ := ih n
      exact ⟨y, List.mem_cons_of_mem _ mem, frame, fun all => next_ fun o' mem => all o' (List.mem_cons_of_mem o mem)⟩
    next c _ cut ready fastCut =>
      obtain ⟨y, mem, frame, -⟩ := ih (n + 1)
      exact ⟨y, List.mem_cons_of_mem _ mem, frame, by simp [cut]⟩
    next cut unready => exact ⟨x, by simp, rfl, by simp [cut]⟩

/-- What a release pass makes of a slot without a full cut: it takes the cuts that it is ready for when every older slot
holds them, and no fast cut behind a slot that waits for its own (R80 to R82). -/
theorem AlignTable.release_slot {t : AlignTable} {pre post : List Slot} {x : Slot} (slots : t.slots = pre ++ x :: post)
    (unsealed : x.fullCut = none) : ∃ y ∈ t.release.slots, y = { x with fastCut := y.fastCut, fullCut := y.fullCut } ∧
      ((∀ o ∈ pre, o.fastCut.isSome = true) → x.fastCut = none →
        y.fastCut = x.fastReady.map fun c => ⟨c, t.nextFast⟩) ∧
      ((∀ o ∈ pre, o.fullCut.isSome = true) → y.fastCut.isSome = true →
        y.fullCut = x.fullReady.map fun c => ⟨c, t.nextFull⟩) ∧
      ((∃ o ∈ pre, o.fastCut = none ∧ o.fastReady = none) → y.fastCut = x.fastCut) := by
  obtain ⟨pre', m, post', whole, same, fastFrame, fast, held⟩ := fastPass_slot pre x post t.nextFast
  obtain ⟨y, mem, fullFrame, full⟩ := fullPass_slot pre' m post' t.nextFull
  have fastCut : y.fastCut = m.fastCut := by rw [fullFrame]
  have fullCut : m.fullCut = none := by rw [fastFrame, unsealed]
  have fullReady : m.fullReady = x.fullReady := by rw [fastFrame]
  refine ⟨y, ?_, ?_, ?_, fun all cut => ?_, ?_⟩
  · rw [AlignTable.release, slots, whole]
    exact mem
  · rw [fullFrame, fastFrame]
  · rwa [fastCut]
  · rw [← fullReady]
    exact full (forall_of_map_eq (f := Slot.fullCut) (P := fun c => c.isSome = true) same all) fullCut (fastCut ▸ cut)
  · rwa [fastCut]

/-! ### The slot that the record is stored in -/

theorem Slot.complete_iff (sl : Slot) (set : List StreamId) : sl.complete set = true ↔ AllPresent sl.entries set := by
  simp [Slot.complete, AllPresent, Slot.present]

/-- Fast readiness judged: what stands is kept, and an OPEN slot is ready by its expected set, or else by its gating set
(R76, R77). -/
theorem Slot.judge_fastReady (sl : Slot) :
    (sl.fastReady.isSome = true ∨ sl.fastCut.isSome = true → sl.judge.fastReady = sl.fastReady) ∧
    (sl.fastReady = none → sl.fastCut = none →
      (AllPresent sl.entries sl.expected → sl.judge.fastReady = some .complete) ∧
      (¬ AllPresent sl.entries sl.expected → AllPresent sl.entries sl.gating → sl.judge.fastReady = some .gating) ∧
      (¬ AllPresent sl.entries sl.expected → ¬ AllPresent sl.entries sl.gating → sl.judge.fastReady = none)) := by
  simp only [← Slot.complete_iff, Slot.judge]
  constructor
  · intro stands
    refine if_pos ?_
    rcases stands with ready | cut
    · simp [ready]
    · have notOpened : sl.state ≠ .opened := fun opened => by simp [(sl.state_opened).mp opened] at cut
      simp [notOpened]
  · intro ready cut
    have opened := (sl.state_opened).mpr cut
    rw [if_neg (by simp [ready, opened])]
    exact ⟨fun all => if_pos all, fun not gating => by rw [if_neg not, if_pos gating],
      fun not none => by rw [if_neg not, if_neg none]⟩

theorem Slot.not_closed {sl : Slot} (unsealed : sl.fullCut = none) : sl.state ≠ .closed := fun closed => by
  have both := (sl.state_closed).mp closed
  simp [unsealed] at both

/-- Full readiness judged, for a slot without a full cut (R76, R77). -/
theorem Slot.judge_fullReady {sl : Slot} (unsealed : sl.fullCut = none) :
    (sl.fullReady.isSome = true → sl.judge.fullReady = sl.fullReady) ∧
    (sl.fullReady = none →
      (AllPresent sl.entries sl.expected → sl.judge.fullReady = some .complete) ∧
      (¬ AllPresent sl.entries sl.expected → sl.judge.fullReady = none)) := by
  have notClosed := Slot.not_closed unsealed
  simp only [← Slot.complete_iff, Slot.judge]
  refine ⟨fun ready => if_pos (by simp [ready]), fun ready => ?_⟩
  rw [if_neg (by simp [ready, notClosed])]
  exact ⟨fun all => if_pos all, fun not => if_neg not⟩

/-- The slot with the record's entry in it, before readiness is judged (R62, R72). -/
def Slot.withEntry (r : PlacedRecord) (sl : Slot) : Slot :=
  { sl with entries := update sl.entries r.stream fun _ => some (r.entry (sl.state == .fastCut)) }

@[simp] theorem Slot.withEntry_expected (r : PlacedRecord) (sl : Slot) : (sl.withEntry r).expected = sl.expected := by
  rw [Slot.withEntry]

@[simp] theorem Slot.withEntry_gating (r : PlacedRecord) (sl : Slot) : (sl.withEntry r).gating = sl.gating := by
  rw [Slot.withEntry]

@[simp] theorem Slot.withEntry_fastReady (r : PlacedRecord) (sl : Slot) : (sl.withEntry r).fastReady = sl.fastReady := by
  rw [Slot.withEntry]

@[simp] theorem Slot.withEntry_fullReady (r : PlacedRecord) (sl : Slot) : (sl.withEntry r).fullReady = sl.fullReady := by
  rw [Slot.withEntry]

@[simp] theorem Slot.withEntry_fastCut (r : PlacedRecord) (sl : Slot) : (sl.withEntry r).fastCut = sl.fastCut := by
  rw [Slot.withEntry]

@[simp] theorem Slot.withEntry_fullCut (r : PlacedRecord) (sl : Slot) : (sl.withEntry r).fullCut = sl.fullCut := by
  rw [Slot.withEntry]

/-- A record stored is an entry put in, and readiness judged (R72, R76, R77). -/
theorem Slot.store_eq (r : PlacedRecord) (sl : Slot) : sl.store r = (sl.withEntry r).judge := rfl

theorem Slot.judge_expected (sl : Slot) : sl.judge.expected = sl.expected := rfl

theorem Slot.judge_entries (sl : Slot) : sl.judge.entries = sl.entries := rfl

/-- The entry is LATE behind a fast cut (R72). -/
theorem Slot.withEntry_entries {r : PlacedRecord} {sl : Slot} (unsealed : sl.fullCut = none) :
    (sl.withEntry r).entries[r.stream] = some (r.entry sl.fastCut.isSome) ∧
      ∀ j : StreamId, j ≠ r.stream → (sl.withEntry r).entries[j] = sl.entries[j] := by
  have late : (sl.state == .fastCut) = sl.fastCut.isSome := by
    unfold Slot.state
    rw [unsealed]
    cases sl.fastCut <;> rfl
  exact ⟨by simp [Slot.withEntry, late], fun j other => by simp [Slot.withEntry, update_get_ne _ _ other]⟩

/-- What storing a record makes of a slot without a full cut: the record's entry is in it beside the others, and readiness
is judged by the entries (R62, R72, R76, R77). -/
theorem Slot.store_spec (r : PlacedRecord) {sl : Slot} (unsealed : sl.fullCut = none) :
    (sl.store r).expected = sl.expected ∧ (sl.store r).entries[r.stream] = some (r.entry sl.fastCut.isSome) ∧
    (∀ j : StreamId, j ≠ r.stream → (sl.store r).entries[j] = sl.entries[j]) ∧
    (sl.fastReady.isSome = true ∨ sl.fastCut.isSome = true → (sl.store r).fastReady = sl.fastReady) ∧
    (sl.fastReady = none → sl.fastCut = none →
      (AllPresent (sl.store r).entries sl.expected → (sl.store r).fastReady = some .complete) ∧
      (¬ AllPresent (sl.store r).entries sl.expected → AllPresent (sl.store r).entries sl.gating →
        (sl.store r).fastReady = some .gating) ∧
      (¬ AllPresent (sl.store r).entries sl.expected → ¬ AllPresent (sl.store r).entries sl.gating →
        (sl.store r).fastReady = none)) ∧
    (sl.fullReady.isSome = true → (sl.store r).fullReady = sl.fullReady) ∧
    (sl.fullReady = none →
      (AllPresent (sl.store r).entries sl.expected → (sl.store r).fullReady = some .complete) ∧
      (¬ AllPresent (sl.store r).entries sl.expected → (sl.store r).fullReady = none)) := by
  obtain ⟨entry, others⟩ := Slot.withEntry_entries (r := r) unsealed
  obtain ⟨fastKept, fastJudged⟩ := (sl.withEntry r).judge_fastReady
  obtain ⟨fullKept, fullJudged⟩ := Slot.judge_fullReady (sl := sl.withEntry r) (by simp [unsealed])
  simp only [Slot.withEntry_expected, Slot.withEntry_gating, Slot.withEntry_fastReady, Slot.withEntry_fullReady,
    Slot.withEntry_fastCut] at fastKept fastJudged fullKept fullJudged
  rw [Slot.store_eq, Slot.judge_entries, Slot.judge_expected, Slot.withEntry_expected]
  exact ⟨rfl, entry, others, fastKept, fastJudged, fullKept, fullJudged⟩

theorem EpochKey.older.ne {a b : Slot} (older : EpochKey.older a.key b.key) : a.key ≠ b.key := fun same =>
  EpochKey.not_older_self b.key (by rwa [same] at older)

/-- A slot stands at one place of a table in epoch order. -/
theorem split_unique {l pre post pre' post' : List Slot} {sl : Slot}
    (order : l.Pairwise fun a b => EpochKey.older a.key b.key) (split : l = pre ++ sl :: post)
    (split' : l = pre' ++ sl :: post') : pre' = pre := by
  have distinct : l.Nodup := order.imp fun older same => EpochKey.older.ne older (congrArg Slot.key same)
  rw [split, List.nodup_middle, List.nodup_cons, List.mem_append, not_or] at distinct
  obtain ⟨⟨before, behind⟩, -⟩ := distinct
  exact ((List.append_cons_inj_of_notMem before behind).mp (split.symm.trans split')).1.symm

/-- In slots that stand in epoch order, a change of the slot of an epoch changes that slot alone. -/
theorem AlignTable.modify_split {t : AlignTable} (order : t.slots.Pairwise fun a b => EpochKey.older a.key b.key)
    {pre post : List Slot} {sl : Slot} (slots : t.slots = pre ++ sl :: post) (f : Slot → Slot) :
    (t.modify sl.key f).slots = pre ++ f sl :: post := by
  rw [slots, List.pairwise_append, List.pairwise_cons] at order
  obtain ⟨-, ⟨newer, -⟩, older⟩ := order
  have unchanged : ∀ l : List Slot, (∀ o ∈ l, o.key ≠ sl.key) →
      l.map (fun o => if o.key = sl.key then f o else o) = l :=
    fun l other => (List.map_congr_left fun o mem => if_neg (other o mem)).trans (List.map_id' l)
  rw [AlignTable.modify, slots, List.map_append, List.map_cons, if_pos rfl,
    unchanged pre fun o mem => EpochKey.older.ne (older o mem sl List.mem_cons_self),
    unchanged post fun o mem => (EpochKey.older.ne (newer o mem)).symm]

/-! ### The acceptance -/

/-- Record `b` is record `a` after presence reports: its streaks have changed, and its health between LIVE and LAGGING
(R100, R101). -/
def StreamRecord.Reports (a b : StreamRecord) : Prop :=
  b = { a with health := b.health, missStreak := b.missStreak, onTimeStreak := b.onTimeStreak } ∧
    (b = a ∨ ((a.health = .live ∨ a.health = .lagging) ∧ (b.health = .live ∨ b.health = .lagging)))

theorem StreamRecord.Reports.refl (a : StreamRecord) : a.Reports a := ⟨rfl, .inl rfl⟩

theorem StreamRecord.Reports.trans {a b c : StreamRecord} (h : a.Reports b) (h' : b.Reports c) : a.Reports c := by
  obtain ⟨frame, same | ⟨before, after⟩⟩ := h
  · exact same ▸ h'
  · obtain ⟨frame', same' | ⟨-, after'⟩⟩ := h'
    · exact same' ▸ ⟨frame, .inr ⟨before, after⟩⟩
    · exact ⟨by rw [frame', frame], .inr ⟨before, after'⟩⟩

/-- Presence reports change streaks, and health between LIVE and LAGGING. -/
theorem State.presenceReport_reports (s : State) (items : List (StreamId × Bool)) (i : StreamId) :
    s.supervisor.streams[i].Reports (s.presenceReport items).supervisor.streams[i] := by
  unfold State.presenceReport
  induction items generalizing s with
  | nil => exact .refl _
  | cons item items ih =>
    have first : s.supervisor.streams[i].Reports
        (s.updStream item.1 (StreamRecord.presence item.2)).supervisor.streams[i] := by
      rw [State.updStream_supervisor, Fin.getElem_fin, Fin.getElem_fin, update_get]
      split
      · exact StreamRecord.presence_keeps item.2 _
      · exact .refl _
    rw [List.foldl_cons]
    exact first.trans (ih _)

/-- A release pass reports to a stream, cut by cut. -/
theorem State.releasePass_reports (s : State) (i : StreamId) :
    s.supervisor.streams[i].Reports s.releasePass.supervisor.streams[i] := by
  have fold : ∀ (cuts : List Slot) (u : State), u.supervisor.streams[i].Reports
      (cuts.foldl (fun s sl => s.presenceReport (presenceItems s.store sl)) u).supervisor.streams[i] := by
    intro cuts
    induction cuts with
    | nil => exact fun u => .refl _
    | cons sl cuts ih => exact fun u => (u.presenceReport_reports _ i).trans (ih _)
  exact fold s.table.fastCuts { s with table := s.table.release }

theorem laterOf_eq (kept : Option Nat) (t : Nat) : laterOf kept t = max (kept.getD 0) t := by
  cases kept <;> simp [laterOf]

/-- The common effects of an acceptance at a stream that the table expects (R92, R93, R102). -/
theorem StreamRecord.acceptCommon_expected {a : StreamRecord} (expected : a.health.expected = true) (now limit L : Nat)
    (lane : LaneId) (arrival : Nat) :
    let seen := max (a.lastAccepted.getD 0) arrival
    let expires := seen + limit * 100000000
    a.acceptCommon now limit L lane arrival = { a with
      health := if expires ≤ now then .silent else a.health
      lastLane := some lane
      lastAccepted := some seen
      silenceTimer := if expires ≤ now then none else some expires
      tracker := some (trackSample a.tracker L) } := by
  intro seen expires
  have later : laterOf a.lastAccepted arrival = seen := laterOf_eq _ _
  have expiry : silenceExpiry seen limit = expires := rfl
  simp only [StreamRecord.acceptCommon, later, expiry]
  split
  next past => exact StreamRecord.expireSilence_expected expected
  next => rfl

/-- A stream that is judged returns to LIVE with streaks 0 from AWAITING and SILENT, and stays what it is from LIVE and
LAGGING, before the common effects (R92); the presence reports before it change nothing of what they rest on. -/
theorem StreamRecord.Reports.accept_eq {a b : StreamRecord} (reports : a.Reports b) (judged : a.health.judged = true)
    (now limit L : Nat) (lane : LaneId) (arrival : Nat) : ∃ c : StreamRecord,
      b.accept now limit L lane arrival = c.acceptCommon now limit L lane arrival ∧ c.health.expected = true ∧
      c.lastAccepted = a.lastAccepted ∧ c.tracker = a.tracker ∧
      (a.health = .awaiting ∨ a.health = .silent → c = { a with health := .live, missStreak := 0, onTimeStreak := 0 }) := by
  obtain ⟨frame, same⟩ := reports
  by_cases returns : a.health = .awaiting ∨ a.health = .silent
  · obtain rfl : b = a := same.resolve_right fun moved => by
      rcases returns with e | e <;> simp [e] at moved
    refine ⟨{ b with health := .live, missStreak := 0, onTimeStreak := 0 }, ?_, rfl, rfl, rfl, fun _ => rfl⟩
    unfold StreamRecord.accept
    rcases returns with e | e <;> rw [e]
  · have running : b.health = .live ∨ b.health = .lagging := by
      rcases same with rfl | ⟨-, after⟩
      · revert judged returns
        cases b.health <;> simp [Health.judged]
      · exact after
    refine ⟨b, ?_, (Health.expected_iff _).mpr (.inr running), by rw [frame], by rw [frame], fun h => absurd h returns⟩
    unfold StreamRecord.accept
    rcases running with e | e <;> rw [e]

theorem State.silenceLimit_of_active {s : State} {a : BankId} (active : s.store.active = some a) :
    s.silenceLimit = (s.store.bank a).silenceLimit := by
  simp [State.silenceLimit, ProfileStore.activeBank, active]

/-! ### The table's take of a record that is stored -/

section
variable {s : State} {r : PlacedRecord} {sl : Slot} (handling : s.arbiter.handling = some r)
  (found : s.table.find r.key = some sl) (unsealed : sl.fullCut = none) (bank : sl.bank = r.bank)
  (free : sl.entries[r.stream] = none)
include handling found unsealed bank free

/-- A placed record for a slot of its bank that is not CLOSED and has no entry for its stream is stored, its stream takes
the acceptance where it is supervised, and its handling ends (R58, R71, R72). -/
theorem State.tableTake_stores : s.tableTake =
    { (if r.supervised then (s.storeRecord r).acceptance r.stream r.latency r.lane r.arrivalElapsed
        else s.storeRecord r) with
      arbiter := { s.arbiter with handling := none } } := by
  have notClosed := Slot.not_closed unsealed
  obtain ⟨stored, accepted⟩ : (s.takeRecord r).1 = s.storeRecord r ∧ (s.takeRecord r).2.accepted = true := by
    simp only [State.takeRecord, found, if_neg notClosed, bank, ne_eq, not_true, if_false, free, true_and]
    split <;> rfl
  unfold State.tableTake
  simp only [handling, stored, accepted, Bool.true_and]
  split <;> simp

/-- The table is the release of the table with the record in its slot (R72, R80). -/
theorem State.tableTake_table : s.tableTake.table = (s.table.modify r.key (Slot.store r)).release := by
  rw [State.tableTake_stores handling found unsealed bank free]
  split <;> simp [State.storeRecord]

/-- Besides the table and the supervisor, the end of the record's handling alone changes the state. -/
theorem State.tableTake_frame : s.tableTake = { s with
    table := s.tableTake.table
    supervisor := s.tableTake.supervisor
    arbiter := { s.arbiter with handling := none } } := by
  have arbiter := congrArg State.arbiter (State.tableTake_stores handling found unsealed bank free)
  have ports := congrArg State.ports (State.tableTake_stores handling found unsealed bank free)
  ext1
  case arbiter => exact arbiter
  case ports => rw [ports]; split <;> simp
  all_goals simp

/-- The record of a supervised stream takes the acceptance, after the presence reports of the release pass (R92, R100). -/
theorem State.tableTake_stream (supervised : r.supervised = true) : ∃ b : StreamRecord,
    s.supervisor.streams[r.stream].Reports b ∧ s.tableTake.supervisor.streams[r.stream] =
      b.accept s.timebase.elapsed s.silenceLimit r.latency r.lane r.arrivalElapsed := by
  refine ⟨(s.storeRecord r).supervisor.streams[r.stream],
    State.releasePass_reports { s with table := s.table.modify r.key (Slot.store r) } r.stream, ?_⟩
  rw [State.tableTake_stores handling found unsealed bank free, if_pos supervised]
  simp [State.acceptance, State.silenceLimit]

end

/-- Settles O30: the record is stored and its slot judged and released, and the stream's record takes the acceptance. -/
theorem recordStoredAndAccepted : Obligations.RecordStoredAndAccepted := by
  unfold Obligations.RecordStoredAndAccepted
  intro s r sl on handling inv mem key unsealed bank free
  have order := ((tableInv_iff s).mp inv).1.order
  have found : s.table.find r.key = some sl := key ▸ AlignTable.find_mem order mem
  have run : exec .tableTakeRecord s = .next s.tableTake := congrArg _ (State.whileOperating_on on _)
  refine ⟨_, run, State.tableTake_frame handling found unsealed bank free, ?_⟩
  rw [State.tableTake_table handling found unsealed bank free]
  refine ⟨AlignTable.release_released _, ?_, fun o ho other => ?_, fun supervised judged => ?_⟩
  · obtain ⟨pre, post, split⟩ := List.append_of_mem mem
    have stored := AlignTable.modify_split order split (Slot.store r)
    rw [key] at stored
    obtain ⟨sameKey, -, sameFast, sameFull⟩ := Slot.store_sameCuts r sl
    obtain ⟨sl', mem', frame, fast, full, held⟩ := AlignTable.release_slot stored (sameFull.trans unsealed)
    rw [sameFast] at fast held
    obtain ⟨expected, spec⟩ := Slot.store_spec r unsealed
    have entries : sl'.entries = (sl.store r).entries := by rw [frame]
    have fastReady : sl'.fastReady = (sl.store r).fastReady := by rw [frame]
    have fullReady : sl'.fullReady = (sl.store r).fullReady := by rw [frame]
    rw [← entries, ← fastReady, ← fullReady] at spec
    obtain ⟨entry, others, fastKept, fastJudged, fullKept, fullJudged⟩ := spec
    refine ⟨sl', mem', ?_, ?_, entry, others, fastKept, fastJudged, fullKept, fullJudged, fun pre' post' split' => ?_⟩
    · rw [frame]
      exact sameKey.trans key
    · rw [frame]
      exact expected
    · rw [split_unique order split split', fastReady, fullReady]
      exact ⟨fast, full, held⟩
  · have unchanged : o ∈ (s.table.modify r.key (Slot.store r)).slots :=
      List.mem_map.mpr ⟨o, ho, if_neg other⟩
    obtain ⟨o', mem', evolves⟩ := (AlignTable.release_evolves _).forward unchanged
    exact ⟨o', mem', evolves.key, evolves.entries⟩
  · obtain ⟨b, reports, after⟩ := State.tableTake_stream handling found unsealed bank free supervised
    obtain ⟨c, accepts, expected, lastAccepted, tracker, returns⟩ := reports.accept_eq judged s.timebase.elapsed
      s.silenceLimit r.latency r.lane r.arrivalElapsed
    rw [accepts, StreamRecord.acceptCommon_expected expected, lastAccepted, tracker] at after
    rw [after]
    refine ⟨rfl, rfl, fun none => ?_, fun k some_ => ?_, fun back => ?_, fun a active => ?_⟩
    · rw [none]; rfl
    · rw [some_]; rfl
    · rw [returns back]
      exact ⟨rfl, rfl⟩
    · rw [State.silenceLimit_of_active active]
      refine ⟨fun early => ?_, fun late => ?_⟩
      · have before := Nat.not_le.mpr early
        exact ⟨if_neg before, fun back => by rw [returns back]; exact if_neg before⟩
      · exact ⟨if_pos late, if_pos late⟩

end Sys2Proof.Machine
end

section
/-! PROOFS. The end of draining, and CLEAR ALIGNMENT (R84, R85, R109, R132, R155). -/

namespace Sys2Proof.Machine

/-! ### Draining -/

/-- Settles O21: the count that ends draining is 0 exactly when every slot of the draining generation is CLOSED. -/
theorem drainingEnds : Obligations.DrainingEnds := by
  unfold Obligations.DrainingEnds
  intro s d on draining
  have run : exec .drainingEnd s = .next s.endDraining := congrArg _ (State.whileOperating_on on _)
  have drained := s.table.nonClosed_eq_zero d.generation
  rw [run, State.endDraining, draining]
  refine ⟨fun closed => ?_, fun ⟨sl, mem, generation, notClosed⟩ => ?_⟩
  · exact congrArg _ (if_pos (drained.mpr closed))
  · exact congrArg _ (if_neg fun none => notClosed (drained.mp none sl mem generation))

/-! ### CLEAR ALIGNMENT -/

/-- A record of the supervisor after a clear, by the health that it finds (R109). -/
theorem StreamRecord.clear_spec (now limit : Nat) (r : StreamRecord) :
    (r.health.judged = true → r.clear now limit = { r with
      health := .awaiting
      faultCount := 0
      quietTimer := none
      missStreak := 0
      onTimeStreak := 0
      silenceTimer := some (now + limit * 100000000)
      tracker := none }) ∧
    (r.health = .halted ∨ r.health = .quarantined →
      r.clear now limit = { r with missStreak := 0, onTimeStreak := 0, tracker := none }) ∧
    (r.health = .unconfigured → r.clear now limit = r) := by
  unfold StreamRecord.clear
  refine ⟨fun judged => ?_, ?_, fun off => by rw [off]⟩
  · revert judged
    cases r.health <;> simp [Health.judged, StreamRecord.setAwaiting, StreamRecord.forgetFaults, silenceExpiry, elapsedSecond]
  · rintro (halted | quarantined)
    · rw [halted]
    · rw [quarantined]

/-- A clear keeps what a record says of the stream's past (R109). -/
theorem StreamRecord.clear_keeps (now limit : Nat) (r : StreamRecord) :
    (r.clear now limit).lastLane = r.lastLane ∧ (r.clear now limit).lastAccepted = r.lastAccepted ∧
      (r.clear now limit).lastFault = r.lastFault := by
  unfold StreamRecord.clear
  cases r.health <;> exact ⟨rfl, rfl, rfl⟩

/-- H after a clear: the current epoch in ALIGNING, and else H as it stood (R85). -/
theorem State.tableClear_horizon (s : State) :
    (s.device ≠ .aligning → s.tableClear.table.horizon = s.table.horizon) ∧
    (s.device = .aligning → s.tableClear.table.horizon = s.currentEpoch) :=
  ⟨fun outside => if_neg outside, fun aligning => if_pos aligning⟩

/-- Every stream's record is cleared (R109). -/
theorem State.clearAlignment_stream (s : State) (i : StreamId) :
    s.clearAlignment.1.supervisor.streams[i] = s.supervisor.streams[i].clear s.timebase.elapsed s.silenceLimit := by
  simp [State.clearAlignment, State.supervisorClear, State.silenceLimit]

/-- Settles O52: the table, the supervisor and the ports are cleared in the state in which the handler has taken the
request. -/
theorem clearAlignmentClears : Obligations.ClearAlignmentClears := by
  unfold Obligations.ClearAlignmentClears
  intro s p tag serves moved
  generalize taken : s.updPort p (Port.takeInHand (.clearAlignment p tag)) = u
  have ports : u.ports = update s.ports p (Port.takeInHand (.clearAlignment p tag)) := by subst taken; rfl
  have table : u.table = s.table := by subst taken; rfl
  have supervisor : u.supervisor = s.supervisor := by subst taken; rfl
  have limit : u.silenceLimit = s.silenceLimit := by subst taken; simp [State.silenceLimit]
  have elapsed : u.timebase.elapsed = s.timebase.elapsed := by subst taken; rfl
  have device : u.device = s.device := by subst taken; simp [State.device]
  have current : u.currentEpoch = s.currentEpoch := by subst taken; simp [State.currentEpoch]
  obtain ⟨outside, aligning⟩ := u.tableClear_horizon
  rw [device, table] at outside
  rw [device, current] at aligning
  have cleared : (u.clearAlignment.1.updPort p (Port.respond tag u.clearAlignment.2)).table = u.tableClear.table := by
    simp [State.clearAlignment]
  refine ⟨_, serveStep_idle serves _ tag _, ?_, ?_, ?_, fun q other => ?_, ?_, fun i => ?_⟩
  all_goals rw [taken, State.answer]
  · subst taken
    rfl
  · rwa [cleared]
  · rw [cleared]
    exact fun c inAligning now => (aligning inAligning).trans now
  · have raised := Raised.latch .tableCleared (moved s.ports[q])
    simpa [State.clearAlignment, ports, table, other] using raised
  · have answers : ∀ q, Port.respond tag u.clearAlignment.2 ((moved (Port.takeInHand (.clearAlignment p tag) q)).latch
        .tableCleared) = (answered tag .ok (.numbers s.table.nextFast s.table.nextFull) (moved q)).latch .tableCleared := by
      subst taken
      exact fun _ => rfl
    have raised := Raised.latch .tableCleared
      (answered tag .ok (.numbers s.table.nextFast s.table.nextFull) (moved s.ports[p]))
    rw [← answers] at raised
    simpa [State.clearAlignment, ports, table] using raised
  · intro before after
    obtain ⟨judged, stopped, unconfigured⟩ := before.clear_spec s.timebase.elapsed s.silenceLimit
    obtain ⟨lane, accepted, fault⟩ := before.clear_keeps s.timebase.elapsed s.silenceLimit
    have became : after = before.clear s.timebase.elapsed s.silenceLimit := by
      rw [← limit, ← elapsed]
      exact (u.clearAlignment_stream i).trans (by rw [supervisor])
    rw [became]
    refine ⟨lane, accepted, fault, fun health => ?_, stopped, unconfigured⟩
    rw [judged health]
    exact ⟨rfl, rfl, rfl, rfl, rfl, rfl, fun a active => by rw [State.silenceLimit_of_active active]⟩

end Sys2Proof.Machine
end

section
/-! PROOFS. An opening that recycles the oldest slot (R64, R66). -/

namespace Sys2Proof.Machine

/-- The state with its oldest slot recycled: the slots are those behind it, and CURSOR_OVERRUN is told of its cuts (R66). -/
def State.recycled (s : State) (old : Slot) (rest : List Slot) : State :=
  { s.tellOverrun old with table := { s.table with slots := rest } }

/-- With no number free, an opening takes the oldest slot's when that is CLOSED (R66). -/
theorem State.claimSlot_oldest {s : State} {old : Slot} {rest : List Slot} (slots : s.table.slots = old :: rest)
    (closed : old.state = .closed) (full : ∀ n : Fin 512, ∃ sl ∈ s.table.slots, sl.number = n) :
    s.claimSlot = some (old.number, s.recycled old rest) := by
  have taken : takeClosed s.table.slots = some (old, rest) := by rw [slots, takeClosed_head closed]
  have noneFree := freeNumber_none.mpr full
  unfold State.claimSlot
  rw [noneFree]
  dsimp only
  rw [taken]
  rfl

/-- An opening under the oldest slot's number puts the new slot behind the others (R63, R66). -/
theorem State.openSlot_recycles {s : State} {e : EpochKey} {b : BankId} {g : Generation} {old : Slot} {rest : List Slot}
    (governs : s.store.governing e.second = some (b, g)) (slots : s.table.slots = old :: rest)
    (closed : old.state = .closed) (full : ∀ n : Fin 512, ∃ sl ∈ s.table.slots, sl.number = n) :
    s.openSlot e = ((s.recycled old rest).opening (s.newSlot old.number e b g), true) := by
  unfold State.openSlot
  rw [governs, State.claimSlot_oldest slots closed full]
  rfl

/-- CURSOR_OVERRUN is raised in a port whose cursor names the slot's number of its kind, and in no other (R66). -/
theorem State.tellOverrun_raises (s : State) (sl : Slot) (p : PortId) : Raised
    (if sl.fastCut.map Cut.seq = some s.ports[p].fastCursor ∨ sl.fullCut.map Cut.seq = some s.ports[p].fullCursor
      then [.cursorOverrun] else []) s.ports[p] (s.tellOverrun sl).ports[p] := by
  have told : (s.tellOverrun sl).ports[p] =
      if sl.fastCut.map Cut.seq = some s.ports[p].fastCursor ∨ sl.fullCut.map Cut.seq = some s.ports[p].fullCursor
      then s.ports[p].latch .cursorOverrun else s.ports[p] := updateAll_get _ _ p
  rw [told]
  split
  · exact .latch _ _
  · exact .refl _

/-- Outside a pause the boundary command is the table's boundary event (R3, R18, R64). -/
theorem exec_epochBoundary_running {s : State} (on : s.operating = true) (runs : s.timebase.correction.isPause = false) :
    exec .epochBoundary s = .next s.epochBoundary := by
  have boundary : exec .epochBoundary s = .next (s.whileOperating fun s =>
    if s.timebase.correction.isPause then s else s.epochBoundary) := rfl
  rw [boundary, State.whileOperating_on on, runs]
  rfl

/-- Settles O19: the table is the one with the oldest slot gone and the new one behind the others, but for the deadlines
that local time has already reached at the opening. -/
theorem openingRecyclesOldest : Obligations.OpeningRecyclesOldest := by
  unfold Obligations.OpeningRecyclesOldest
  intro s c old rest on current runs _ slots closed full fresh
  have run := exec_epochBoundary_running on runs
  obtain ⟨b, g, governs⟩ : ∃ b g, s.store.governing c.second = some (b, g) := by
    obtain ⟨t₀, b, g, -, governs, rfl⟩ := State.currentEpoch_some current
    exact ⟨b, g, governs⟩
  have boundary : s.epochBoundary =
      ((s.recycled old rest).opening (s.newSlot old.number c b g)).expireDeadlines [c] := by
    rw [State.epochBoundary, current]
    dsimp only
    rw [if_pos ((opens_iff _ _).mpr fresh), State.openSlot_recycles governs slots closed full]
  have evolves := ((s.recycled old rest).opening (s.newSlot old.number c b g)).expireDeadlines_evolves [c]
  rw [← boundary] at evolves
  have ports : s.epochBoundary.ports = (s.tellOverrun old).ports := by
    rw [boundary, State.expireDeadlines_ports]
    rfl
  refine ⟨_, run, by ext1 <;> simp [boundary, State.opening, State.recycled], ?_, ?_, fun p => ?_⟩
  · rw [evolves.keys, State.opening_keys]
    rfl
  · obtain ⟨sl, mem, evolved⟩ := evolves.forward (List.mem_append_right _ (List.mem_singleton_self _))
    exact ⟨sl, mem, evolved.key, by rw [evolved.1]; rfl⟩
  · rw [ports]
    exact s.tellOverrun_raises old p

end Sys2Proof.Machine
end

section
/-! PROOFS. The outcomes of a placed record that store nothing: TOO_LATE, the equal copy and the conflict (R65, R71, R73,
R74, R94, R96). -/

namespace Sys2Proof.Machine

/-- A record whose outcome is no acceptance ends its handling, and leaves what the outcome left (R58, R71). -/
theorem State.tableTake_declines {s u : State} {r : PlacedRecord} {o : TakeOutcome} (handling : s.arbiter.handling = some r)
    (taken : s.takeRecord r = (u, o)) (declined : o.accepted = false) :
    s.tableTake = { u with arbiter := { u.arbiter with handling := none } } := by
  unfold State.tableTake
  simp only [handling, taken, declined, Bool.false_and]
  rfl

/-! ### Too late -/

/-- A record for an epoch without a slot opens none when another bank governs its second, when it is for no epoch of the
current one and the one after it, and when it is not newer than H (R65). -/
theorem State.takeNew_tooLate {s : State} {r : PlacedRecord} {c : EpochKey} (current : s.currentEpoch = some c)
    (late : (s.store.governing r.key.second).map Prod.fst ≠ some r.bank ∨ EpochKey.older r.key c ∨
      (r.key ≠ c ∧ s.epochAfter c ≠ some r.key) ∨ opens s.table.horizon r.key = false) :
    s.takeNew r = (s, .tooLate) := by
  unfold State.takeNew
  rw [current]
  dsimp only
  rcases late with foreign | older | ⟨other, far⟩ | shut
  · rw [if_pos foreign]
  · rw [if_pos older, ite_self]
  · rw [if_neg other, if_neg far, ite_self, ite_self, ite_self]
  · rw [if_pos shut, ite_self, ite_self]

/-- No bank and generation govern a second for a record's bank when another bank does (R67). -/
theorem ProfileStore.governing_foreign {ps : ProfileStore} {b : BankId} {x : Nat} (foreign : ∀ g, ¬ Governs ps b g x) :
    (ps.governing x).map Prod.fst ≠ some b := by
  intro governs
  obtain ⟨⟨b', g⟩, found, rfl⟩ := Option.map_eq_some_iff.mp governs
  exact foreign g ((ps.governing_iff b' g x).mp found)

/-! ### The conflict -/

/-- The kinds that a fault raises, by the health that takes it and by the limit, are those of its record (R94, R96). -/
theorem faultKinds_eq (r : StreamRecord) : faultKinds r = (if r.health.faultLatches then [.streamFault] else []) ++
    if r.atLimit then [.streamQuarantined] else [] := by
  unfold faultKinds StreamRecord.atLimit
  by_cases third : r.faultCount = 3
  · cases r.health <;> simp [third, Health.faultLatches, Health.judged, faultLimit]
  · cases r.health <;> simp [third, Health.faultLatches, Health.judged, faultLimit]

/-- A conflict marked on the kept entry of a stream: the mark changes once, by the fast cut, and every other entry stands
(R74). -/
theorem Slot.markConflict_spec {sl : Slot} {i : StreamId} {e : Entry} (kept : sl.entries[i] = some e) :
    sl.markConflict i = { sl with entries := (sl.markConflict i).entries } ∧
    (∀ j : StreamId, j ≠ i → (sl.markConflict i).entries[j] = sl.entries[j]) ∧
    (sl.markConflict i).entries[i] = some { e with
      mark := if e.mark = .none then (if sl.fastCut.isSome then .afterFastCut else .beforeFastCut) else e.mark } := by
  have kept' : sl.entries[i.val] = some e := kept
  refine ⟨rfl, fun j other => update_get_ne _ _ other, ?_⟩
  have opened : (sl.state = .opened) ↔ ¬ sl.fastCut.isSome = true := by rw [Slot.state_opened]; simp
  simp only [Slot.markConflict, Fin.getElem_fin, update_get_self, kept', Option.map_some, opened]
  congr 1
  by_cases unmarked : e.mark = .none
  · simp only [if_pos unmarked, ite_not]
  · simp only [if_neg unmarked]

/-- The state with the conflict of a record marked on the kept entry, and CONFLICT raised (R74). -/
def State.noteConflict (s : State) (r : PlacedRecord) : State :=
  ({ s with table := s.table.modify r.key (Slot.markConflict r.stream) } : State).latchAll .conflict

@[simp] theorem State.noteConflict_supervisor (s : State) (r : PlacedRecord) :
    (s.noteConflict r).supervisor = s.supervisor := State.latchAll_supervisor _ _

@[simp] theorem State.noteConflict_timebase (s : State) (r : PlacedRecord) : (s.noteConflict r).timebase = s.timebase :=
  State.latchAll_timebase _ _

theorem State.noteConflict_raises (s : State) (r : PlacedRecord) : RaisedInAll [.conflict] s (s.noteConflict r) :=
  State.latchAll_raises _ _

/-- The state after a differing copy: the conflict noted, and reported as a fault of a supervised stream (R74). -/
def State.takeConflict (s : State) (r : PlacedRecord) : State :=
  if r.supervised then (s.noteConflict r).faultReport r.stream .conflict else s.noteConflict r

/-- A differing copy changes the slot of its epoch, stream records and ports alone (R74). -/
theorem State.takeConflict_frame (s : State) (r : PlacedRecord) : s.takeConflict r = { s with
    table := s.table.modify r.key (Slot.markConflict r.stream)
    supervisor := { s.supervisor with streams := (s.takeConflict r).supervisor.streams }
    ports := (s.takeConflict r).ports } := by
  unfold State.takeConflict
  split
  · ext1 <;> simp [State.faultReport_supervisor, State.noteConflict]
  · ext1 <;> simp [State.noteConflict]

/-- A differing copy of a stream without supervision changes no stream record (R44, R74). -/
theorem State.takeConflict_unsupervised (s : State) {r : PlacedRecord} (alone : r.supervised = false) :
    (s.takeConflict r).supervisor = s.supervisor ∧ RaisedInAll [.conflict] s (s.takeConflict r) := by
  have noted : s.takeConflict r = s.noteConflict r := by rw [State.takeConflict, alone]; rfl
  rw [noted]
  exact ⟨s.noteConflict_supervisor r, s.noteConflict_raises r⟩

/-- A differing copy of a supervised stream is a fault at its record alone, whose conditions follow CONFLICT (R74, R94,
R96). -/
theorem State.takeConflict_supervised (s : State) {r : PlacedRecord} (supervised : r.supervised = true) :
    (s.takeConflict r).supervisor.streams =
      update s.supervisor.streams r.stream (StreamRecord.fault s.timebase.elapsed .conflict) ∧
    RaisedInAll (.conflict :: faultKinds s.supervisor.streams[r.stream]) s (s.takeConflict r) := by
  have reported : s.takeConflict r = (s.noteConflict r).faultReport r.stream .conflict := by
    rw [State.takeConflict, supervised]
    rfl
  have raised := (s.noteConflict_raises r).trans ((s.noteConflict r).faultReport_raises r.stream .conflict)
  rw [← faultKinds_eq, State.noteConflict_supervisor] at raised
  rw [reported]
  exact ⟨by rw [State.faultReport_supervisor, State.noteConflict_supervisor, State.noteConflict_timebase], raised⟩

section
variable {s : State} {r : PlacedRecord} {sl : Slot} (found : s.table.find r.key = some sl)
include found

/-- A record for a CLOSED slot or a slot of another bank is TOO_LATE (R71). -/
theorem State.takeRecord_tooLate (late : sl.state = .closed ∨ sl.bank ≠ r.bank) : s.takeRecord r = (s, .tooLate) := by
  simp only [State.takeRecord, found]
  rcases late with closed | foreign
  · rw [if_pos closed]
  · rw [if_pos foreign, ite_self]

variable (unsealed : sl.fullCut = none) (bank : sl.bank = r.bank) {e : Entry} (kept : sl.entries[r.stream] = some e)
include unsealed bank kept

/-- An equal copy is a duplicate (R73). -/
theorem State.takeRecord_duplicate (same : e.record = r.record) : s.takeRecord r = (s, .duplicate) := by
  have notClosed := Slot.not_closed unsealed
  simp only [State.takeRecord, found, if_neg notClosed, bank, ne_eq, not_true, if_false, kept, same, if_true]

/-- A differing copy marks the kept entry, raises CONFLICT, and is a fault of a supervised stream (R74). -/
theorem State.takeRecord_conflict (differs : e.record ≠ r.record) : s.takeRecord r =
    (s.takeConflict r, .conflict) := by
  have notClosed := Slot.not_closed unsealed
  simp only [State.takeRecord, found, if_neg notClosed, bank, ne_eq, not_true, if_false, kept, if_neg differs,
    State.takeConflict, State.noteConflict]

end

/-- In slots that stand in epoch order, a change of the slot of an epoch replaces that one slot (R60). -/
theorem AlignTable.modify_slot {t : AlignTable} (order : t.slots.Pairwise fun a b => EpochKey.older a.key b.key) {sl : Slot}
    (mem : sl ∈ t.slots) (f : Slot → Slot) :
    t.modify sl.key f = { t with slots := t.slots.map fun o => if o.key = sl.key then f sl else o } := by
  have slots : t.slots.map (fun o => if o.key = sl.key then f o else o) =
      t.slots.map fun o => if o.key = sl.key then f sl else o :=
    List.map_congr_left fun o ho => by
      split
      next same => rw [key_unique order ho mem same]
      next => rfl
  rw [AlignTable.modify, slots]

/-- Settles O31: the outcomes in the order in which the table decides them. -/
theorem duplicateAndConflict : Obligations.DuplicateAndConflict := by
  unfold Obligations.DuplicateAndConflict
  intro s r on handling inv
  have order := ((tableInv_iff s).mp inv).1.order
  have run : exec .tableTakeRecord s = .next s.tableTake := congrArg _ (State.whileOperating_on on _)
  have declines : ∀ {o : TakeOutcome}, o.accepted = false → s.takeRecord r = (s, o) →
      exec .tableTakeRecord s = .next { s with arbiter := { s.arbiter with handling := none } } :=
    fun declined taken => run.trans (congrArg _ (State.tableTake_declines handling taken declined))
  constructor
  · intro t₀ b g new set governs rate c late
    rw [← ProfileStore.governing_iff] at governs
    have newRecord : s.takeRecord r = s.takeNew r := by simp only [State.takeRecord, AlignTable.find_none.mpr new]
    refine declines (o := .tooLate) rfl (newRecord.trans
      (State.takeNew_tooLate (State.currentEpoch_governed set governs) ?_))
    rcases late with foreign | older | ⟨other, far⟩ | ⟨h, horizon, notNewer⟩
    · exact .inl (ProfileStore.governing_foreign foreign)
    · exact .inr (.inl older)
    · exact .inr (.inr (.inl ⟨other, fun after => far ((State.epochAfter_iff governs).mp after)⟩))
    · exact .inr (.inr (.inr (by rw [horizon]; exact decide_eq_false notNewer)))
  intro sl mem key
  have found : s.table.find r.key = some sl := key ▸ AlignTable.find_mem order mem
  refine ⟨fun late => ?_, fun e unsealed bank kept => ⟨fun same => ?_, ?_⟩⟩
  · refine declines (o := .tooLate) rfl (State.takeRecord_tooLate found (late.imp_left fun cut => ?_))
    obtain ⟨follows, -⟩ := inv.1 sl mem
    exact (Slot.state_closed sl).mpr ⟨follows cut, cut⟩
  · exact declines (o := .duplicate) rfl (State.takeRecord_duplicate found unsealed bank kept same)
  · intro differs before below
    have taken := State.tableTake_declines handling (State.takeRecord_conflict found unsealed bank kept differs) rfl
    have marked := AlignTable.modify_slot order mem (Slot.markConflict r.stream)
    rw [key] at marked
    obtain ⟨frame, others, entry⟩ := Slot.markConflict_spec kept
    refine ⟨_, sl.markConflict r.stream, run.trans (congrArg _ taken), ?_, frame, others, entry, ?_, ?_, ?_⟩
    · rw [← marked]
      conv_lhs => rw [s.takeConflict_frame r]
    · intro j other
      cases supervised : r.supervised with
      | false => exact congrArg (·.streams[j]) (s.takeConflict_unsupervised supervised).1
      | true => exact (congrArg (·[j]) (s.takeConflict_supervised supervised).1).trans (update_get_ne _ _ other)
    · intro alone
      obtain ⟨same, raised⟩ := s.takeConflict_unsupervised alone
      exact ⟨congrArg (·.streams[r.stream]) same, raised⟩
    · intro supervised
      obtain ⟨streams, raised⟩ := s.takeConflict_supervised supervised
      rw [← StreamRecord.fault_eq _ _ _ (below supervised)]
      exact ⟨(congrArg (·[r.stream]) streams).trans (update_get_self _ _ _), raised⟩

end Sys2Proof.Machine
end

section
/-! PROOFS. The cuts that a deadline issues, and the presence report of a fast cut (R78, R80, R81, R82, R100, R101). -/

namespace Sys2Proof.Machine

/-! ### The presence report -/

/-- An item of a presence report at a record (R100, R101). -/
theorem StreamRecord.presence_eq (present : Bool) (r : StreamRecord) : r.presence present = reported present r := by
  have miss : 8 ≤ min (r.missStreak + 1) 8 ↔ min (r.missStreak + 1) 8 = 8 := by omega
  have onTime : 8 ≤ min (r.onTimeStreak + 1) 8 ↔ min (r.onTimeStreak + 1) 8 = 8 := by omega
  unfold StreamRecord.presence reported StreamRecord.judgeLag
  cases r.health with
  | live =>
    cases present with
    | true => simp [streakLimit]
    | false =>
      simp only [Bool.false_eq_true, ↓reduceIte, streakLimit, miss]
      split <;> rfl
  | lagging =>
    cases present with
    | true =>
      simp only [↓reduceIte, streakLimit, onTime, reduceCtorEq]
      split <;> rfl
    | false => simp [streakLimit]
  | unconfigured | awaiting | silent | quarantined | halted => rfl

/-- A presence report is taken by a stream as often as it lists it (R100). -/
theorem State.presenceReport_stream (l : List StreamId) (present : StreamId → Bool) (i : StreamId) : ∀ s : State,
    (s.presenceReport (l.map fun j => (j, present j))).supervisor.streams[i] =
      (reported (present i))^[l.count i] s.supervisor.streams[i] := by
  induction l with
  | nil => exact fun s => rfl
  | cons j l ih =>
    intro s
    have step : s.presenceReport ((j :: l).map fun j => (j, present j)) =
      (s.updStream j (StreamRecord.presence (present j))).presenceReport (l.map fun j => (j, present j)) := by
      rw [State.presenceReport, List.map_cons, List.foldl_cons, State.presenceReport]
    rw [step, ih, State.updStream_supervisor]
    by_cases listed : j = i
    · subst listed
      rw [List.count_cons_self, Function.iterate_succ_apply, ← StreamRecord.presence_eq]
      exact congrArg _ (update_get_self _ _ _)
    · rw [List.count_cons_of_ne listed]
      exact congrArg _ (update_get_ne _ _ (Ne.symm listed))

/-- The presence report of a slot's fast cut reaches the streams of its expected set that it has a supervised stream for
(R81, R100). -/
theorem State.presenceReport_slot (s : State) (ps : ProfileStore) (sl : Slot) (i : StreamId) :
    (sl.expected.count i = 1 → Supervised ps sl.bank i →
      (s.presenceReport (presenceItems ps sl)).supervisor.streams[i] =
        reported (sl.entries[i]).isSome s.supervisor.streams[i]) ∧
    (i ∉ sl.expected ∨ ¬ Supervised ps sl.bank i →
      (s.presenceReport (presenceItems ps sl)).supervisor.streams[i] = s.supervisor.streams[i]) := by
  rw [presenceItems, State.presenceReport_stream, ← ProfileStore.supervised_iff]
  refine ⟨fun once supervised => ?_, fun unlisted => ?_⟩
  · rw [List.count_filter supervised, once]
    rfl
  · rw [List.count_eq_zero_of_not_mem fun mem => ?_]
    · rfl
    obtain ⟨expected, supervised⟩ := List.mem_filter.mp mem
    exact unlisted.elim (· expected) (· supervised)

/-! ### The passes over slots that are all cut -/

/-- The first part of a release pass goes over slots that hold their fast cut (R80). -/
theorem fastPass_append_cut {pre : List Slot} (cut : ∀ o ∈ pre, o.fastCut.isSome = true) (l : List Slot) (n : Nat) :
    fastPass (pre ++ l) n = (pre ++ (fastPass l n).1, (fastPass l n).2) := by
  induction pre with
  | nil => rfl
  | cons o pre ih =>
    obtain ⟨c, hc⟩ := Option.isSome_iff_exists.mp (cut o List.mem_cons_self)
    rw [List.cons_append, fastPass, hc]
    dsimp only
    rw [ih fun o' mem => cut o' (List.mem_cons_of_mem o mem)]
    rfl

/-- The first part of a release pass ends before a slot that is neither cut nor ready (R80). -/
theorem fastPass_stops {l : List Slot} (waits : ∀ o, l.head? = some o → o.fastCut = none ∧ o.fastReady = none) (n : Nat) :
    fastPass l n = (l, n, []) := by
  cases l with
  | nil => rfl
  | cons o l =>
    obtain ⟨cut, ready⟩ := waits o rfl
    rw [fastPass, cut, ready]

/-- A release pass gives the next full number to a slot that is ready for its full cut, behind slots that all hold theirs
(R80, R82). -/
theorem AlignTable.release_fullCut {t : AlignTable} {pre post : List Slot} {x : Slot} {c : Cause}
    (slots : t.slots = pre ++ x :: post) (before : ∀ o ∈ pre, o.fastCut.isSome = true ∧ o.fullCut.isSome = true)
    (cut : x.fastCut.isSome = true) (unsealed : x.fullCut = none) (ready : x.fullReady = some c) :
    { x with fullCut := some ⟨c, t.nextFull⟩ } ∈ t.release.slots := by
  have passed := fastPass_append_cut (pre := pre ++ [x])
    (List.forall_mem_append.mpr ⟨fun o mem => (before o mem).1, by simpa using cut⟩) post t.nextFast
  rw [List.append_assoc, List.singleton_append, ← slots] at passed
  obtain ⟨y, mem, frame, full⟩ := fullPass_slot pre x (fastPass post t.nextFast).1 t.nextFull
  have sealedNow := full (fun o mem => (before o mem).2) unsealed cut
  rw [ready, Option.map_some] at sealedNow
  rw [sealedNow] at frame
  rw [AlignTable.release, passed, List.append_assoc, List.singleton_append]
  exact frame ▸ mem

/-- A release pass issues one fast cut alone, for a slot behind slots that hold theirs and before one that is neither cut
nor ready (R80, R81). -/
theorem AlignTable.fastCuts_single {t : AlignTable} {pre post : List Slot} {x : Slot} {c : Cause}
    (slots : t.slots = pre ++ x :: post) (before : ∀ o ∈ pre, o.fastCut.isSome = true) (cut : x.fastCut = none)
    (ready : x.fastReady = some c) (waits : ∀ o, post.head? = some o → o.fastCut = none ∧ o.fastReady = none) :
    t.fastCuts = [{ x with fastCut := some ⟨c, t.nextFast⟩ }] := by
  rw [AlignTable.fastCuts, slots, fastPass_append_cut before, fastPass, cut, ready]
  dsimp only
  rw [fastPass_stops waits]

/-! ### The release pass at the supervisor -/

/-- A presence report changes the streams' records alone (R100). -/
theorem State.presenceReport_supervisor (s : State) (items : List (StreamId × Bool)) (X : Vector StreamRecord 48) :
    { (s.presenceReport items).supervisor with streams := X } = { s.supervisor with streams := X } := by
  unfold State.presenceReport
  exact foldl_keeps (fun u => ({ u.supervisor with streams := X } : Supervisor)) _
    (fun _ _ => by rw [State.updStream_supervisor]) _ _

/-- A release pass changes the streams' records alone in the supervisor (R81). -/
theorem State.releasePass_supervisor (s : State) :
    s.releasePass.supervisor = { s.supervisor with streams := s.releasePass.supervisor.streams } :=
  foldl_keeps (fun u => ({ u.supervisor with streams := s.releasePass.supervisor.streams } : Supervisor)) _
    (fun u _ => u.presenceReport_supervisor _ _) _ _

/-- A release pass that issues one fast cut takes that slot's presence report (R80, R81). -/
theorem State.releasePass_single {s : State} {x : Slot} (cuts : s.table.fastCuts = [x]) :
    s.releasePass = ({ s with table := s.table.release } : State).presenceReport (presenceItems s.store x) := by
  rw [State.releasePass, cuts]
  rfl

/-! ### The expiry of a deadline -/

/-- The slot ready for its fast cut by DEADLINE (R78). -/
def Slot.fastExpired (sl : Slot) : Slot := { sl with fastReady := some .deadline }

/-- The slot ready for its full cut by DEADLINE (R78). -/
def Slot.fullExpired (sl : Slot) : Slot := { sl with fullReady := some .deadline }

section
variable {s : State} {sl : Slot} (found : s.table.find sl.key = some sl)
include found

/-- A fast deadline that has come makes its OPEN slot ready and runs the release pass (R78, R80). -/
theorem State.fastDeadline_expires (due : s.expired sl.fastDeadline = true) (cut : sl.fastCut = none)
    (unready : sl.fastReady = none) :
    s.fastDeadline sl.key = ({ s with table := s.table.modify sl.key Slot.fastExpired } : State).releasePass := by
  have opened := (sl.state_opened).mpr cut
  unfold State.fastDeadline
  rw [found]
  exact if_pos (by simp [due, opened, unready])

/-- A full deadline that has come makes its slot ready and runs the release pass (R78, R80). -/
theorem State.fullDeadline_expires (due : s.expired sl.fullDeadline = true) (unsealed : sl.fullCut = none)
    (unready : sl.fullReady = none) :
    s.fullDeadline sl.key = ({ s with table := s.table.modify sl.key Slot.fullExpired } : State).releasePass := by
  have notClosed := Slot.not_closed unsealed
  unfold State.fullDeadline
  rw [found]
  exact if_pos (by simp [due, notClosed, unready])

/-- A fast deadline has no effect on a slot that is ready (R78). -/
theorem State.fastDeadline_ready (ready : sl.fastReady.isSome = true) : s.fastDeadline sl.key = s := by
  obtain ⟨c, hc⟩ := Option.isSome_iff_exists.mp ready
  unfold State.fastDeadline
  rw [found]
  exact if_neg (by simp [hc])

/-- A full deadline has no effect on a slot that is ready (R78). -/
theorem State.fullDeadline_ready (ready : sl.fullReady.isSome = true) : s.fullDeadline sl.key = s := by
  obtain ⟨c, hc⟩ := Option.isSome_iff_exists.mp ready
  unfold State.fullDeadline
  rw [found]
  exact if_neg (by simp [hc])

end

section
variable {s : State} {pre post : List Slot} {sl : Slot} (laws : s.table.Laws) (slots : s.table.slots = pre ++ sl :: post)
include laws slots

/-- The slot stands in the table under its key. -/
theorem AlignTable.Laws.find_split : s.table.find sl.key = some sl :=
  AlignTable.find_mem laws.order (by rw [slots]; simp)

/-- Behind a slot without a fast cut no slot has one (R80). -/
theorem AlignTable.Laws.uncut_behind (cut : sl.fastCut = none) : ∀ o ∈ post, o.fastCut = none := by
  have first := laws.fastFirst
  rw [slots, List.pairwise_append, List.pairwise_cons] at first
  obtain ⟨-, ⟨behind, -⟩, -⟩ := first
  exact fun o mem => Option.not_isSome_iff_eq_none.mp fun cutLater => by simpa [cut] using behind o mem cutLater

/-- A fast deadline that has come for the oldest slot without its fast cut gives it the next fast number (R78, R80, R81). -/
theorem State.fastDeadline_cuts (due : s.expired sl.fastDeadline = true) (before : ∀ o ∈ pre, o.fastCut.isSome = true)
    (cut : sl.fastCut = none) (unready : sl.fastReady = none) : Released (s.fastDeadline sl.key).table.slots ∧
      ∃ y ∈ (s.fastDeadline sl.key).table.slots, y.key = sl.key ∧ y.fastCut = some ⟨.deadline, s.table.nextFast⟩ := by
  rw [State.fastDeadline_expires (laws.find_split slots) due cut unready, State.releasePass_table]
  have unsealed : sl.fullCut = none := Option.not_isSome_iff_eq_none.mp fun sealedNow => by
    simpa [cut] using (laws.slot sl (by rw [slots]; simp)).1 sealedNow
  obtain ⟨y, mem, frame, fast, -, -⟩ :=
    AlignTable.release_slot (AlignTable.modify_split laws.order slots Slot.fastExpired) unsealed
  exact ⟨AlignTable.release_released _, y, mem, by rw [frame]; rfl, fast before cut⟩

/-- When the slot behind it is not ready, the cut is the pass's only one, and its presence report reaches the supervised
streams of the slot's expected set (R81, R100). -/
theorem State.fastDeadline_reports (due : s.expired sl.fastDeadline = true) (before : ∀ o ∈ pre, o.fastCut.isSome = true)
    (cut : sl.fastCut = none) (unready : sl.fastReady = none) (waits : ∀ o, post.head? = some o → o.fastReady = none)
    (i : StreamId) :
    (sl.expected.count i = 1 → Supervised s.store sl.bank i →
      (s.fastDeadline sl.key).supervisor.streams[i] = reported (sl.entries[i]).isSome s.supervisor.streams[i]) ∧
    (i ∉ sl.expected ∨ ¬ Supervised s.store sl.bank i →
      (s.fastDeadline sl.key).supervisor.streams[i] = s.supervisor.streams[i]) := by
  have cuts := AlignTable.fastCuts_single (AlignTable.modify_split laws.order slots Slot.fastExpired) before cut rfl
    fun o head => ⟨laws.uncut_behind slots cut o (List.mem_of_mem_head? head), waits o head⟩
  rw [State.fastDeadline_expires (laws.find_split slots) due cut unready, State.releasePass_single cuts]
  exact State.presenceReport_slot _ s.store { sl.fastExpired with fastCut := some ⟨.deadline, s.table.nextFast⟩ } i

/-- A full deadline that has come for the oldest slot without its full cut, behind its fast cut, gives it the next full
number and closes it (R78, R80, R82). -/
theorem State.fullDeadline_cuts (due : s.expired sl.fullDeadline = true) (before : ∀ o ∈ pre, o.fullCut.isSome = true)
    (cut : sl.fastCut.isSome = true) (unsealed : sl.fullCut = none) (unready : sl.fullReady = none) :
    ∃ y ∈ (s.fullDeadline sl.key).table.slots, y.key = sl.key ∧ y.fullCut = some ⟨.deadline, s.table.nextFull⟩ ∧
      y.state = .closed := by
  rw [State.fullDeadline_expires (laws.find_split slots) due unsealed unready, State.releasePass_table]
  have bothBefore : ∀ o ∈ pre, o.fastCut.isSome = true ∧ o.fullCut.isSome = true := fun o mem =>
    ⟨(laws.slot o (by rw [slots]; simp [mem])).1 (before o mem), before o mem⟩
  exact ⟨_, AlignTable.release_fullCut (AlignTable.modify_split laws.order slots Slot.fullExpired) bothBefore cut unsealed rfl,
    rfl, rfl, (Slot.state_closed _).mpr ⟨cut, rfl⟩⟩

end

/-- The expiry of a fast deadline changes the streams' records alone in the supervisor (R81). -/
theorem State.fastDeadline_supervisor (s : State) (e : EpochKey) : (s.fastDeadline e).supervisor =
    { s.supervisor with streams := (s.fastDeadline e).supervisor.streams } := by
  unfold State.fastDeadline
  split
  · split
    · exact State.releasePass_supervisor _
    · rfl
  · rfl

/-- Settles O20: the expiry makes the slot ready, and the release pass issues its cut under the next number. -/
theorem deadlinesIssueCuts : Obligations.DeadlinesIssueCuts := by
  unfold Obligations.DeadlinesIssueCuts
  intro s t₀ pre post sl on set runs inv slots
  have laws := ((tableInv_iff s).mp inv).1
  have found := laws.find_split slots
  have fastRun : exec (.fastDeadlineExpiry sl.key) s = .next (s.fastDeadline sl.key) :=
    congrArg _ (State.whileOperating_on on _)
  have fullRun : exec (.fullDeadlineExpiry sl.key) s = .next (s.fullDeadline sl.key) :=
    congrArg _ (State.whileOperating_on on _)
  refine ⟨fun before cut unready reached => ?_, fun before cut unsealed unready reached => ?_, fun ready => ?_,
    fun ready => ?_⟩
  · have due := State.expired_of_reached set runs reached
    obtain ⟨released, y, mem, key, issued⟩ := State.fastDeadline_cuts laws slots due before cut unready
    refine ⟨_, fastRun, ?_, ?_, released, ⟨y, mem, key, issued⟩,
      State.fastDeadline_reports laws slots due before cut unready⟩
    · ext1
      case supervisor => exact s.fastDeadline_supervisor sl.key
      all_goals simp
    · exact ((s.fastDeadline_keepsLaws sl.key).laws laws).seq_lt (k := .fast) mem (by simp [Slot.seq, issued])
  · have due := State.expired_of_reached set runs reached
    obtain ⟨y, mem, key, issued, closed⟩ := State.fullDeadline_cuts laws slots due before cut unsealed unready
    refine ⟨_, fullRun, by ext1 <;> simp, ?_, y, mem, key, issued, closed⟩
    exact ((s.fullDeadline_keepsLaws sl.key).laws laws).seq_lt (k := .full) mem (by simp [Slot.seq, issued])
  · rw [fastRun, State.fastDeadline_ready found ready]
  · rw [fullRun, State.fullDeadline_ready found ready]

end Sys2Proof.Machine
end

section
/-! PROOFS. The worst-latency list, and the second boundary that builds it and activates a pending switch (R104, R107, R108,
R131). -/

namespace Sys2Proof.Machine

/-! ### The worst-latency list -/

/-- The streams with a listed figure, in index order (R107). -/
def listedStreams (streams : Vector StreamRecord 48) : List (StreamId × Nat) :=
  allStreams.filterMap fun i => (listedFigure streams[i]).map fun f => (i, f)

/-- The same, largest figure first, a tie to the lower index (R107). -/
def rankedStreams (streams : Vector StreamRecord 48) : List (StreamId × Nat) :=
  (listedStreams streams).foldl (fun acc x => insertByFigure x acc) []

theorem worstList_eq (streams : Vector StreamRecord 48) :
    worstList streams = ((rankedStreams streams).map Prod.fst).take 4 := rfl

theorem listedFigure_iff (streams : Vector StreamRecord 48) (i : StreamId) (f : Nat) :
    listedFigure streams[i] = some f ↔ Listed streams i f := by
  unfold listedFigure Listed
  cases streams[i].health <;> simp

theorem mem_listedStreams {streams : Vector StreamRecord 48} {x : StreamId × Nat} :
    x ∈ listedStreams streams ↔ Listed streams x.1 x.2 := by
  obtain ⟨i, f⟩ := x
  rw [← listedFigure_iff]
  simp [listedStreams, allStreams]

theorem listedStreams_sorted (streams : Vector StreamRecord 48) :
    (listedStreams streams).Pairwise fun x y => x.1 < y.1 := by
  refine List.pairwise_filterMap.mpr ((List.pairwise_lt_finRange 48).imp fun {i j} before x hx y hy => ?_)
  simp only [Option.map_eq_some_iff] at hx hy
  obtain ⟨-, -, rfl⟩ := hx
  obtain ⟨-, -, rfl⟩ := hy
  exact before

/-- One listed stream stands before another: a larger figure, or the same figure at a lower index (R107). -/
def StandsBefore (x y : StreamId × Nat) : Prop := y.2 < x.2 ∨ (x.2 = y.2 ∧ x.1 < y.1)

theorem StandsBefore.trans {x y z : StreamId × Nat} (h : StandsBefore x y) (h' : StandsBefore y z) :
    StandsBefore x z := by
  rcases h with larger | ⟨same, lower⟩
  · exact .inl (h'.elim (fun larger' => larger'.trans larger) fun ⟨same', _⟩ => same' ▸ larger)
  · exact h'.imp (fun larger' => same ▸ larger') fun ⟨same', lower'⟩ => ⟨same.trans same', lower.trans lower'⟩

theorem insertByFigure_perm (x : StreamId × Nat) (l : List (StreamId × Nat)) : (insertByFigure x l).Perm (x :: l) := by
  induction l with
  | nil => exact .refl _
  | cons y l ih =>
    unfold insertByFigure
    split
    · exact .refl _
    · exact (ih.cons y).trans (.swap x y l)

/-- A stream of a higher index than all of a list is put where it stands. -/
theorem insertByFigure_sorted {x : StreamId × Nat} {l : List (StreamId × Nat)} (sorted : l.Pairwise StandsBefore)
    (higher : ∀ y ∈ l, y.1 < x.1) : (insertByFigure x l).Pairwise StandsBefore := by
  induction l with
  | nil => exact List.pairwise_singleton _ _
  | cons y l ih =>
    obtain ⟨head, tail⟩ := List.pairwise_cons.mp sorted
    unfold insertByFigure
    split
    next larger =>
      refine List.pairwise_cons.mpr ⟨fun z hz => ?_, sorted⟩
      rcases List.mem_cons.mp hz with rfl | hz
      · exact .inl larger
      · exact StandsBefore.trans (.inl larger) (head z hz)
    next notLarger =>
      refine List.pairwise_cons.mpr ⟨fun z hz => ?_, ih tail fun z hz => higher z (List.mem_cons_of_mem y hz)⟩
      rcases List.mem_cons.mp ((insertByFigure_perm x l).subset hz) with rfl | hz
      · exact (Nat.lt_or_eq_of_le (Nat.le_of_not_lt notLarger)).imp id fun same =>
          ⟨same.symm, higher y List.mem_cons_self⟩
      · exact head z hz

theorem foldl_insertByFigure_perm (l acc : List (StreamId × Nat)) :
    (l.foldl (fun acc x => insertByFigure x acc) acc).Perm (l ++ acc) := by
  induction l generalizing acc with
  | nil => exact .refl _
  | cons x l ih => exact (ih _).trans (((insertByFigure_perm x acc).append_left l).trans List.perm_middle)

theorem foldl_insertByFigure_sorted {l acc : List (StreamId × Nat)} (order : l.Pairwise fun x y => x.1 < y.1)
    (sorted : acc.Pairwise StandsBefore) (higher : ∀ y ∈ acc, ∀ x ∈ l, y.1 < x.1) :
    (l.foldl (fun acc x => insertByFigure x acc) acc).Pairwise StandsBefore := by
  induction l generalizing acc with
  | nil => exact sorted
  | cons x l ih =>
    obtain ⟨head, tail⟩ := List.pairwise_cons.mp order
    refine ih tail (insertByFigure_sorted sorted fun y hy => higher y hy x List.mem_cons_self) fun y hy z hz => ?_
    rcases List.mem_cons.mp ((insertByFigure_perm x acc).subset hy) with rfl | hy
    · exact head z hz
    · exact higher y hy z (List.mem_cons_of_mem x hz)

theorem rankedStreams_perm (streams : Vector StreamRecord 48) : (rankedStreams streams).Perm (listedStreams streams) := by
  have perm := foldl_insertByFigure_perm (listedStreams streams) []
  rwa [List.append_nil] at perm

theorem mem_rankedStreams {streams : Vector StreamRecord 48} {x : StreamId × Nat} :
    x ∈ rankedStreams streams ↔ Listed streams x.1 x.2 :=
  (rankedStreams_perm streams).mem_iff.trans mem_listedStreams

theorem rankedStreams_sorted (streams : Vector StreamRecord 48) : (rankedStreams streams).Pairwise StandsBefore :=
  foldl_insertByFigure_sorted (listedStreams_sorted streams) .nil (by simp)

theorem rankedStreams_nodup (streams : Vector StreamRecord 48) : ((rankedStreams streams).map Prod.fst).Nodup := by
  refine ((rankedStreams_perm streams).map Prod.fst).nodup_iff.mpr ?_
  exact List.pairwise_map.mpr ((listedStreams_sorted streams).imp fun lt => Fin.ne_of_lt lt)

theorem worstList_length (streams : Vector StreamRecord 48) : (worstList streams).length ≤ 4 := by
  rw [worstList_eq]
  exact List.length_take_le 4 _

theorem worstList_nodup (streams : Vector StreamRecord 48) : (worstList streams).Nodup :=
  (rankedStreams_nodup streams).sublist (List.take_sublist 4 _)

/-- The figure of a listed stream is one figure. -/
theorem Listed.unique {streams : Vector StreamRecord 48} {i : StreamId} {a b : Nat} (h : Listed streams i a)
    (h' : Listed streams i b) : a = b :=
  Option.some.inj (((listedFigure_iff streams i a).mpr h).symm.trans ((listedFigure_iff streams i b).mpr h'))

/-- Listed stream `i` stands before listed stream `j` (R107). -/
def ListedBefore (streams : Vector StreamRecord 48) (i j : StreamId) : Prop :=
  ∀ a b, Listed streams i a → Listed streams j b → b < a ∨ (a = b ∧ i < j)

theorem rankedStreams_before (streams : Vector StreamRecord 48) :
    ((rankedStreams streams).map Prod.fst).Pairwise (ListedBefore streams) := by
  refine List.pairwise_map.mpr ((rankedStreams_sorted streams).imp_of_mem fun {x y} hx hy before a b ha hb => ?_)
  rw [ha.unique (mem_rankedStreams.mp hx), hb.unique (mem_rankedStreams.mp hy)]
  exact before

/-- The worst-latency list, by what R107 says of it. -/
theorem worstList_spec (streams : Vector StreamRecord 48) :
    (∀ i ∈ worstList streams, ∃ a, Listed streams i a) ∧
    (worstList streams).Pairwise (ListedBefore streams) ∧
    ∀ j b, Listed streams j b → j ∉ worstList streams →
      (worstList streams).length = 4 ∧ ∀ i ∈ worstList streams, ListedBefore streams i j := by
  have order := rankedStreams_before streams
  rw [worstList_eq]
  refine ⟨fun i hi => ?_, order.sublist (List.take_sublist 4 _), fun j b listed absent => ?_⟩
  · obtain ⟨x, hx, rfl⟩ := List.mem_map.mp (List.mem_of_mem_take hi)
    exact ⟨x.2, mem_rankedStreams.mp hx⟩
  · generalize hl : (rankedStreams streams).map Prod.fst = l at order absent ⊢
    have mem : j ∈ l := hl ▸ List.mem_map.mpr ⟨(j, b), mem_rankedStreams.mpr listed, rfl⟩
    rw [← List.take_append_drop 4 l] at mem order
    have dropped : j ∈ l.drop 4 := (List.mem_append.mp mem).resolve_left absent
    obtain ⟨-, -, across⟩ := List.pairwise_append.mp order
    have long : 0 < (l.drop 4).length := List.length_pos_of_mem dropped
    rw [List.length_drop] at long
    exact ⟨by rw [List.length_take]; omega, fun i hi => across i hi j dropped⟩

/-- The decay of the peaks leaves which streams are listed, and under which figure (R103, R107). -/
theorem listed_decayed {before after : Vector StreamRecord 48} (decayed : ∀ i : StreamId, after[i] = before[i].decayPeak)
    (i : StreamId) (a : Nat) : Listed after i a ↔ Listed before i a := by
  unfold Listed
  rw [decayed i]
  simp [StreamRecord.decayPeak, Tracker.decay]

/-! ### The second boundary without a switch -/

/-- A due second-boundary event takes the second (R17). -/
theorem exec_secondBoundary_due {s : State} {t₀ : LocalTime} (on : s.operating = true)
    (set : s.timebase.localTime = some t₀) (runs : s.timebase.correction.isPause = false)
    (fresh : s.timebase.lastSecondEvent ≠ some t₀.second) :
    exec .secondBoundary s = .next (s.takeSecond t₀.second) := by
  have due : s.secondDue = some t₀.second := by simp [State.secondDue, set, runs, fresh]
  have step : exec .secondBoundary s = .next s.takeDueSecond := congrArg _ (State.whileOperating_on on _)
  rw [step, State.takeDueSecond, due]

/-- Before the second of a pending switch, the second's work is the supervisor's alone (R104, R131). -/
theorem State.takeSecond_early {s : State} {x : Nat} (early : ∀ S, s.store.pendingSwitch = some S → x < S) :
    (s.takeSecond x).supervisor = (s.supervisorSecond x).supervisor ∧ (s.takeSecond x).store = s.store := by
  have e : (s.supervisorSecond x).storeSecond x = s.supervisorSecond x := by
    unfold State.storeSecond
    split
    next S hS => rw [if_neg (Nat.not_le.mpr (early S (by simpa using hS)))]
    next => rfl
  unfold State.takeSecond
  simp [e]

/-- The list is built from the decayed records (R104, R107). -/
theorem State.supervisorSecond_worst (s : State) (x : Nat) :
    (s.supervisorSecond x).supervisor.worst = worstList (s.supervisorSecond x).supervisor.streams := by
  rw [State.supervisorSecond]

/-- Settles O16: the list that the second's work builds from the decayed records. -/
theorem worstListAtSecond : Obligations.WorstListAtSecond := by
  unfold Obligations.WorstListAtSecond
  intro s t₀ on set runs fresh early
  refine ⟨_, exec_secondBoundary_due on set runs fresh, ?_⟩
  obtain ⟨decayed, -⟩ := s.supervisorSecond_spec t₀.second
  have listed := listed_decayed decayed
  have built : (s.takeSecond t₀.second).supervisor.worst =
      worstList (s.supervisorSecond t₀.second).supervisor.streams := by
    rw [(State.takeSecond_early early).1, State.supervisorSecond_worst]
  have before : ∀ i j, ListedBefore (s.supervisorSecond t₀.second).supervisor.streams i j →
      ListedBefore s.supervisor.streams i j := fun i j h a b ha hb => h a b ((listed i a).mpr ha) ((listed j b).mpr hb)
  obtain ⟨members, order, complete⟩ := worstList_spec (s.supervisorSecond t₀.second).supervisor.streams
  rw [built]
  refine ⟨worstList_length _, fun i hi => ?_, order.imp (before _ _), fun j b hb absent => ?_⟩
  · obtain ⟨a, ha⟩ := members i hi
    exact ⟨a, (listed i a).mp ha⟩
  · obtain ⟨full, above⟩ := complete j b ((listed j b).mpr hb) absent
    exact ⟨full, fun i hi => before i j (above i hi)⟩

/-! ### The second boundary with a switch -/

/-- What an activation makes of a stream's record, by the two banks' rosters (R108). -/
theorem StreamRecord.carryOver_spec (now : Nat) (o new : Bank) (i : StreamId) (r : StreamRecord) :
    (new.enabled i = false → r.carryOver now (some o) new i = .unconfigured) ∧
    (new.enabled i = true → o.enabled i = true → o.station i = new.station i →
      r.carryOver now (some o) new i = r) ∧
    (new.enabled i = true → (o.enabled i = false ∨ o.station i ≠ new.station i) →
      r.carryOver now (some o) new i = StreamRecord.unconfigured.setAwaiting now new.silenceLimit) := by
  unfold StreamRecord.carryOver
  refine ⟨fun off => by simp [off], fun on was same => by simp [on, was, same], fun on fresh => ?_⟩
  rw [if_pos on]
  refine if_neg fun ⟨was, same⟩ => ?_
  rcases fresh with off | other
  · simp [off] at was
  · exact other same

theorem otherBank_of_ne {a b : BankId} (ne : b ≠ a) : otherBank b = a := by
  revert a b
  decide

/-- The supervisor after an activation of the standby bank (R108). -/
theorem State.activate_supervisor (s : State) (x : Option Nat) (d : Option Draining) : (s.activate x d).supervisor =
    { s.supervisor with
      streams := updateAll s.supervisor.streams
        (StreamRecord.carryOver s.timebase.elapsed s.store.activeBank (s.store.bank s.store.standby))
      worst := s.supervisor.worst.filter (keptIndex s.store.activeBank (s.store.bank s.store.standby))
      fastWait := ⟨initialFastWait (s.store.bank s.store.standby), some s.store.standby⟩ } := by
  rw [State.activate, State.latchAll_supervisor]
  rfl

theorem State.activate_stream (s : State) (x : Option Nat) (d : Option Draining) (i : StreamId) :
    (s.activate x d).supervisor.streams[i] =
      s.supervisor.streams[i].carryOver s.timebase.elapsed s.store.activeBank (s.store.bank s.store.standby) i := by
  rw [State.activate_supervisor]
  exact updateAll_get _ _ i

theorem State.activate_raises (s : State) (x : Option Nat) (d : Option Draining) :
    RaisedInAll [.profileSwitched] s (s.activate x d) := by
  intro p
  rw [State.activate_ports]
  simpa using Raised.latch .profileSwitched s.ports[p]

/-- A switch whose second has come is activated behind the supervisor's work of the second (R104, R131). -/
theorem State.takeSecond_switch {s : State} {x S : Nat} (pending : s.store.pendingSwitch = some S) (come : S ≤ x) :
    s.takeSecond x = { (s.supervisorSecond x).activate (some S) (s.drainingAt S) with
      timebase := { s.timebase with lastSecondEvent := some x } } := by
  have draining : (s.supervisorSecond x).drainingAt S = s.drainingAt S := by simp [State.drainingAt]
  have switched : (s.supervisorSecond x).storeSecond x = (s.supervisorSecond x).activate (some S) (s.drainingAt S) := by
    rw [State.storeSecond, State.supervisorSecond_store, pending]
    dsimp only
    rw [if_pos come, draining]
  rw [State.takeSecond, switched]
  simp

/-- Draining begins when a slot of the old generation is not CLOSED, and only then (R131). -/
theorem State.drainingAt_spec (s : State) (S : Nat) :
    ((∃ sl ∈ s.table.slots, sl.generation = s.store.generation ∧ sl.state ≠ .closed) →
      s.drainingAt S = some ⟨s.store.generation, S⟩) ∧
    ((∀ sl ∈ s.table.slots, sl.generation = s.store.generation → sl.state = .closed) → s.drainingAt S = none) := by
  have drained := s.table.nonClosed_eq_zero s.store.generation
  exact ⟨fun ⟨sl, mem, generation, unsealed⟩ => if_neg fun zero => unsealed (drained.mp zero sl mem generation),
    fun closed => if_pos (drained.mpr closed)⟩

/-- Settles O17: the supervisor's work, and the activation of the switch whose second has come. -/
theorem switchActivates : Obligations.SwitchActivates := by
  unfold Obligations.SwitchActivates
  intro s t₀ S a on set runs fresh pending come active apart
  obtain ⟨decayed, -⟩ := s.supervisorSecond_spec t₀.second
  obtain ⟨drains, drained⟩ := s.drainingAt_spec S
  have old : s.store.activeBank = some (s.store.bank a) := by simp [ProfileStore.activeBank, active]
  have raised := RaisedInAll.of_same_ports (s.supervisorSecond_ports t₀.second)
    ((s.supervisorSecond t₀.second).activate_raises (some S) (s.drainingAt S))
  have run := exec_secondBoundary_due on set runs fresh
  rw [State.takeSecond_switch pending come] at run
  refine ⟨_, run, ?_, ?_, ?_, ?_, ?_, fun i => ?_, raised⟩
  · ext1 <;> simp
  · simp [otherBank_of_ne apart]
  · simpa using drains
  · simpa using drained
  · simp [State.activate_supervisor, initialFastWait]
  · have record : ((s.supervisorSecond t₀.second).activate (some S) (s.drainingAt S)).supervisor.streams[i] =
        s.supervisor.streams[i].decayPeak.carryOver s.timebase.elapsed (some (s.store.bank a))
          (s.store.bank s.store.standby) i := by
      rw [State.activate_stream, decayed i, State.supervisorSecond_store, State.supervisorSecond_timebase, old]
    obtain ⟨off, kept, fresh⟩ := StreamRecord.carryOver_spec s.timebase.elapsed (s.store.bank a)
      (s.store.bank s.store.standby) i s.supervisor.streams[i].decayPeak
    dsimp only
    rw [record]
    exact ⟨off, kept, fresh⟩

end Sys2Proof.Machine
end

section
/-! PROOFS. Acknowledgments at the relay: the command that one matches, and what its completion leaves (R98, R99, R139 to
R141, R143). -/

namespace Sys2Proof.Machine

/-! ### The command that an acknowledgment matches -/

theorem CommandSlot.answers_iff (c : CommandSlot) (a : Ack) (arrival : Nat) :
    c.answers a arrival = true ↔ c.station = a.station.toNat ∧ c.tag = a.tag ∧ c.issued ≤ arrival := by
  simp [CommandSlot.answers, and_assoc]

/-- The pair of a stream and its PENDING slot, when the acknowledgment matches it (R139). -/
def Relay.answeredAt (r : Relay) (a : Ack) (arrival : Nat) (i : StreamId) : Option (StreamId × CommandSlot) :=
  match r.slots[i] with
  | some c => if c.answers a arrival then some (i, c) else none
  | none => none

theorem Relay.matching_eq (r : Relay) (a : Ack) (arrival : Nat) :
    r.matching a arrival = allStreams.findSome? (r.answeredAt a arrival) := rfl

theorem Relay.answeredAt_iff (r : Relay) (a : Ack) (arrival : Nat) (i : StreamId) (m : StreamId × CommandSlot) :
    r.answeredAt a arrival i = some m ↔ m.1 = i ∧ r.slots[i] = some m.2 ∧ m.2.answers a arrival = true := by
  obtain ⟨j, d⟩ := m
  unfold Relay.answeredAt
  cases r.slots[i] with
  | none => simp
  | some c =>
    by_cases answers : c.answers a arrival = true
    · simp only [answers, if_true, Option.some.injEq, Prod.mk.injEq]
      constructor
      · rintro ⟨rfl, rfl⟩
        exact ⟨rfl, rfl, answers⟩
      · rintro ⟨rfl, rfl, -⟩
        exact ⟨rfl, rfl⟩
    · simp only [answers, if_false, reduceCtorEq, false_iff, Option.some.injEq]
      rintro ⟨-, rfl, yes⟩
      exact answers yes

/-- An acknowledgment that no PENDING slot answers to matches none (R141). -/
theorem Relay.matching_none {r : Relay} {a : Ack} {arrival : Nat}
    (silent : ∀ i : StreamId, ∀ c, r.slots[i] = some c → ¬ c.answers a arrival = true) : r.matching a arrival = none := by
  rw [Relay.matching_eq, List.findSome?_eq_none_iff]
  refine fun i _ => Option.eq_none_iff_forall_ne_some.mpr fun m hm => ?_
  obtain ⟨-, slot, answers⟩ := (r.answeredAt_iff a arrival i m).mp hm
  exact silent i m.2 slot answers

/-- An acknowledgment matches the one PENDING command for its station that it answers (R136, R139). -/
theorem Relay.matching_unique {r : Relay} {a : Ack} {arrival : Nat} {i : StreamId} {c : CommandSlot}
    (slot : r.slots[i] = some c) (answers : c.answers a arrival = true)
    (alone : ∀ j : StreamId, ∀ d, j ≠ i → r.slots[j] = some d → d.station ≠ c.station) :
    r.matching a arrival = some (i, c) := by
  have hit : r.answeredAt a arrival i = some (i, c) := (r.answeredAt_iff a arrival i _).mpr ⟨rfl, slot, answers⟩
  rw [Relay.matching_eq]
  cases found : allStreams.findSome? (r.answeredAt a arrival) with
  | none =>
    have missed := List.findSome?_eq_none_iff.mp found i (List.mem_finRange i)
    rw [hit] at missed
    cases missed
  | some m =>
    obtain ⟨j, -, hm⟩ := List.exists_of_findSome?_eq_some found
    obtain ⟨-, slot', answers'⟩ := (r.answeredAt_iff a arrival j m).mp hm
    by_cases same : j = i
    · subst same
      rw [← hm, hit]
    · obtain ⟨station, -⟩ := (c.answers_iff a arrival).mp answers
      obtain ⟨station', -⟩ := (m.2.answers_iff a arrival).mp answers'
      exact absurd (station'.trans station.symm) (alone j m.2 same slot')

/-! ### The effect -/

/-- The effect of an action acknowledged DONE on its stream's record (R98, R99). -/
def Action.effect (now limit : Nat) : Action → StreamRecord → StreamRecord
  | .halt => StreamRecord.halt
  | .resume => StreamRecord.resume now limit
  | .echo => id

theorem State.commandEffect_supervisor (s : State) (i : StreamId) (a : Action) : (s.commandEffect i a).supervisor =
    { s.supervisor with
      streams := update s.supervisor.streams i (a.effect s.timebase.elapsed s.silenceLimit) } := by
  cases a with
  | halt | resume => exact State.updStream_supervisor s i _
  | echo =>
    have same : update s.supervisor.streams i id = s.supervisor.streams := update_same _ _ _ rfl
    simp [State.commandEffect, Action.effect, same]

theorem State.effectApplies_iff (s : State) (i : StreamId) (c : CommandSlot) (r : AckResult) :
    s.effectApplies i c r = true ↔ r = .done ∧ c.action ≠ .echo ∧ s.store.activeStation i = some c.station := by
  simp [State.effectApplies, and_assoc]

/-- A HALT effect at a stream's record, by whether it is configured (R98). -/
theorem StreamRecord.halt_spec (r : StreamRecord) :
    (r.health = .unconfigured → r.halt = r) ∧
    (r.health ≠ .unconfigured → r.halt = { r with
      health := .halted, silenceTimer := none, quietTimer := none, missStreak := 0, onTimeStreak := 0 }) := by
  unfold StreamRecord.halt
  cases r.health <;> simp

/-- A RESUME effect at a stream's record, by whether it is HALTED (R91, R99). -/
theorem StreamRecord.resume_spec (now limit : Nat) (r : StreamRecord) :
    (r.health ≠ .halted → r.resume now limit = r) ∧
    (r.health = .halted → r.resume now limit = { r with
      health := .awaiting
      faultCount := 0
      quietTimer := none
      missStreak := 0
      onTimeStreak := 0
      silenceTimer := some (now + limit * 100000000) }) := by
  unfold StreamRecord.resume
  refine ⟨fun running => ?_, fun halted => by rw [halted]; rfl⟩
  split
  next halted => exact absurd halted running
  next => rfl

/-! ### A completed command -/

/-- The outcome that a command's acknowledgment gives (R140, R143). -/
def CommandSlot.outcome (c : CommandSlot) (i : StreamId) (r : AckResult) (applied : Bool) (arrival : Nat) :
    CommandOutcome where
  stream := i
  station := c.station
  action := c.action
  tag := c.tag
  result := if r = .done then .done else .refused
  applied := applied
  roundTrip := some (arrival - c.issued)

/-- A completion is the effect where it applies, the slot EMPTY, and the outcome at the issuing port (R140, R143). -/
theorem State.completeCommand_eq (s : State) (i : StreamId) (c : CommandSlot) (r : AckResult) (arrival : Nat) :
    s.completeCommand i c r arrival =
      ((if s.effectApplies i c r then s.commandEffect i c.action else s).setCommand i none).handOutcome c.port
        (c.outcome i r (s.effectApplies i c r) arrival) := by
  cases r <;> rfl

/-- The streams' records after a completion (R98, R99, R140). -/
theorem State.completeCommand_supervisor (s : State) (i : StreamId) (c : CommandSlot) (r : AckResult) (arrival : Nat) :
    (s.completeCommand i c r arrival).supervisor = if s.effectApplies i c r then
      { s.supervisor with
        streams := update s.supervisor.streams i (c.action.effect s.timebase.elapsed s.silenceLimit) }
    else s.supervisor := by
  rw [State.completeCommand_eq, State.handOutcome_supervisor, State.setCommand_supervisor]
  split
  · exact s.commandEffect_supervisor i c.action
  · rfl

theorem State.completeCommand_slots (s : State) (i : StreamId) (c : CommandSlot) (r : AckResult) (arrival : Nat) :
    (s.completeCommand i c r arrival).relay = { s.relay with slots := update s.relay.slots i fun _ => none } := by
  rw [State.completeCommand_eq]
  split <;> simp

theorem State.completeCommand_port (s : State) (i : StreamId) (c : CommandSlot) (r : AckResult) (arrival : Nat) :
    (s.completeCommand i c r arrival).ports = update s.ports c.port fun q =>
      ({ q with outcome := some (c.outcome i r (s.effectApplies i c r) arrival) }).latch .commandDone := by
  rw [State.completeCommand_eq]
  split <;> simp

/-- A completion touches the stream's slot, the ports and the streams' records alone (R140). -/
theorem State.completeCommand_frame (s : State) (i : StreamId) (c : CommandSlot) (r : AckResult) (arrival : Nat) :
    s.completeCommand i c r arrival = { s with
      relay := { s.relay with slots := (s.completeCommand i c r arrival).relay.slots }
      ports := (s.completeCommand i c r arrival).ports
      supervisor := { s.supervisor with streams := (s.completeCommand i c r arrival).supervisor.streams } } := by
  ext1 <;> simp only [State.completeCommand_timebase, State.completeCommand_lanes, State.completeCommand_arbiter,
    State.completeCommand_table, State.completeCommand_store, State.completeCommand_supplies,
    State.completeCommand_resetLow, State.completeCommand_pending, State.completeCommand_slots]
  rw [State.completeCommand_supervisor]
  split <;> rfl

/-- The stream's slot is EMPTY after a completion, and no other slot changes (R140). -/
theorem State.completeCommand_slot (s : State) (i : StreamId) (c : CommandSlot) (r : AckResult) (arrival : Nat) :
    (s.completeCommand i c r arrival).relay.slots[i] = none ∧
      ∀ j : StreamId, j ≠ i → (s.completeCommand i c r arrival).relay.slots[j] = s.relay.slots[j] := by
  rw [State.completeCommand_slots]
  exact ⟨by simp, fun j other => by simp [other]⟩

/-- The issuing port has the outcome and COMMAND_DONE, and no other port changes (R143). -/
theorem State.completeCommand_raises (s : State) (i : StreamId) (c : CommandSlot) (r : AckResult) (arrival : Nat) :
    Raised [.commandDone]
        { s.ports[c.port] with outcome := some (c.outcome i r (s.effectApplies i c r) arrival) }
        (s.completeCommand i c r arrival).ports[c.port] ∧
      OtherPortsSame c.port s (s.completeCommand i c r arrival) := by
  refine ⟨?_, fun q other => ?_⟩
  · rw [State.completeCommand_port, Fin.getElem_fin, Fin.getElem_fin, update_get_self]
    exact Raised.latch .commandDone _
  · rw [State.completeCommand_port]
    simp [other]

/-- No other stream's record changes at a completion (R98, R99). -/
theorem State.completeCommand_otherStream (s : State) {i j : StreamId} (other : j ≠ i) (c : CommandSlot) (r : AckResult)
    (arrival : Nat) : (s.completeCommand i c r arrival).supervisor.streams[j] = s.supervisor.streams[j] := by
  rw [State.completeCommand_supervisor]
  split
  · simp [other]
  · rfl

/-- What a completion leaves of the stream's own record, by whether the effect applies and by the action (R98, R99,
R140). -/
theorem State.completeCommand_stream (s : State) (i : StreamId) (c : CommandSlot) (r : AckResult) (arrival : Nat) :
    (s.completeCommand i c r arrival).supervisor.streams[i] = if s.effectApplies i c r then
      c.action.effect s.timebase.elapsed s.silenceLimit s.supervisor.streams[i] else s.supervisor.streams[i] := by
  rw [State.completeCommand_supervisor]
  split
  · exact update_get_self _ i _
  · rfl

/-- Settles O29: no command answers and the acknowledgment is discarded, or the one that answers is completed. -/
theorem acknowledgmentCompletes : Obligations.AcknowledgmentCompletes := by
  unfold Obligations.AcknowledgmentCompletes
  intro s l item rest a on serves content
  have run : exec .arbiterTake s = .next ((afterTake s l rest).acknowledge a item.arrivalElapsed) := by
    have step : exec .arbiterTake s = .next s.arbiterTake := congrArg _ (State.whileOperating_on on _)
    rw [step, State.arbiterTake_serves serves, State.routeItem, content]
  refine ⟨fun silent => ?_, fun i c slot station tag issued alone => ?_⟩
  · have unmatched : (afterTake s l rest).relay.matching a item.arrivalElapsed = none :=
      Relay.matching_none fun i c slot answers => silent i c slot ((c.answers_iff a _).mp answers)
    rw [run, State.acknowledge, unmatched]
  · have matched : (afterTake s l rest).relay.matching a item.arrivalElapsed = some (i, c) :=
      Relay.matching_unique slot ((c.answers_iff a _).mpr ⟨station, tag, issued⟩) alone
    rw [State.acknowledge, matched] at run
    dsimp only at run
    generalize taken : afterTake s l rest = u at run ⊢
    have relay : u.relay = s.relay := taken ▸ rfl
    have ports : u.ports = s.ports := taken ▸ rfl
    have supervisor : u.supervisor = s.supervisor := taken ▸ rfl
    have store : u.store = s.store := taken ▸ rfl
    have elapsed : u.timebase.elapsed = s.timebase.elapsed := taken ▸ rfl
    have frame := u.completeCommand_frame i c a.result item.arrivalElapsed
    obtain ⟨empty, kept⟩ := u.completeCommand_slot i c a.result item.arrivalElapsed
    obtain ⟨raised, others⟩ := u.completeCommand_raises i c a.result item.arrivalElapsed
    have record := u.completeCommand_stream i c a.result item.arrivalElapsed
    have applies := u.effectApplies_iff i c a.result
    rw [relay, supervisor] at frame
    rw [store] at applies
    rw [relay] at kept
    rw [ports] at raised
    rw [supervisor, elapsed] at record
    refine ⟨_, run, frame, empty, kept, fun q other =>
      (others q other).trans (by rw [ports]), ⟨_, applies, raised⟩, fun j other =>
      (u.completeCommand_otherStream other c _ _).trans (by rw [supervisor]), fun idle => ?_, fun acts halts => ?_,
      fun acts resumes => ?_⟩
    · rw [record, if_neg fun yes => idle (applies.mp yes)]
    · rw [record, if_pos (applies.mpr acts), halts]
      exact StreamRecord.halt_spec _
    · obtain ⟨done, acting, enabled⟩ := acts
      obtain ⟨b, active, -⟩ := (s.store.activeStation_iff i c.station).mp enabled
      have limit : u.silenceLimit = (s.store.bank b).silenceLimit := by
        rw [State.silenceLimit_of_active (store ▸ active), store]
      rw [record, if_pos (applies.mpr ⟨done, acting, enabled⟩), resumes, limit]
      obtain ⟨running, halted⟩ := StreamRecord.resume_spec s.timebase.elapsed (s.store.bank b).silenceLimit
        s.supervisor.streams[i]
      exact ⟨running, fun h => ⟨b, active, halted h⟩⟩

end Sys2Proof.Machine
end

section
/-! PROOFS. A stream record's laws, by whether the stream is judged, stopped or UNCONFIGURED, and what each report and event
at the stream keeps of them (R89 to R103, O56). -/

namespace Sys2Proof.Machine

/-! ### The laws by the stream's health -/

/-- What the laws say of a record in AWAITING, LIVE, LAGGING or SILENT (R93 to R95, R101). -/
structure StreamRecord.JudgedLaws (r : StreamRecord) : Prop where
  faults : r.faultCount ≤ 3
  miss : r.missStreak ≤ 8
  onTime : r.onTimeStreak ≤ 8
  silence : r.silenceTimer.isSome = true ↔ r.health ≠ .silent
  quiet : r.quietTimer.isSome = true ↔ 1 ≤ r.faultCount
  tracker : r.health = .live ∨ r.health = .lagging → r.tracker.isSome = true

/-- What the laws say of a record in QUARANTINED or HALTED (R94, R96, R98). -/
structure StreamRecord.StoppedLaws (r : StreamRecord) : Prop where
  faults : r.faultCount ≤ 4
  miss : r.missStreak ≤ 8
  onTime : r.onTimeStreak ≤ 8
  limit : r.health = .quarantined → r.faultCount = 4
  silence : r.silenceTimer = none
  quiet : r.quietTimer = none

/-- A stream is judged, stopped or UNCONFIGURED (R89, R94). -/
theorem Health.judged_or_stopped (h : Health) :
    h.judged = true ∨ (h = .halted ∨ h = .quarantined) ∨ h = .unconfigured := by
  cases h <;> decide

theorem Health.judged_iff (h : Health) : h.judged = true ↔ h.expected = true ∨ h = .silent := by
  cases h <;> decide

theorem Health.configured_of_judged {h : Health} (judged : h.judged = true) : h ≠ .unconfigured := by
  rintro rfl
  cases judged

theorem streamInv_judged {r : StreamRecord} (judged : r.health.judged = true) : StreamInv r ↔ r.JudgedLaws := by
  have expected : r.health.expected = true ↔ r.health ≠ .silent := by
    revert judged
    cases r.health <;> simp [Health.judged, Health.expected]
  have unlimited : r.health ≠ .quarantined := by
    intro e
    simp [e, Health.judged] at judged
  constructor
  · rintro ⟨-, miss, onTime, -, faults, silence, quiet, tracker, -⟩
    exact ⟨faults judged, miss, onTime, silence.trans expected, by simpa [judged] using quiet, tracker⟩
  · intro laws
    exact ⟨laws.faults.trans (by decide), laws.miss, laws.onTime, fun e => absurd e unlimited, fun _ => laws.faults,
      laws.silence.trans expected.symm, by simpa [judged] using laws.quiet, laws.tracker,
      fun e => absurd e (Health.configured_of_judged judged)⟩

theorem streamInv_stopped {r : StreamRecord} (stopped : r.health = .halted ∨ r.health = .quarantined) :
    StreamInv r ↔ r.StoppedLaws := by
  have unjudged : r.health.judged = false := by rcases stopped with e | e <;> rw [e] <;> rfl
  have unexpected : r.health.expected = false := by rcases stopped with e | e <;> rw [e] <;> rfl
  constructor
  · rintro ⟨faults, miss, onTime, limit, -, silence, quiet, -, -⟩
    exact ⟨faults, miss, onTime, limit, by simpa [unexpected] using silence, by simpa [unjudged] using quiet⟩
  · intro laws
    refine ⟨laws.faults, laws.miss, laws.onTime, laws.limit, by simp [unjudged], by simp [unexpected, laws.silence],
      by simp [unjudged, laws.quiet], fun e => ?_, fun e => ?_⟩
    · rcases stopped with h | h <;> simp [h] at e
    · rcases stopped with h | h <;> simp [h] at e

theorem StreamInv.eq_unconfigured {r : StreamRecord} (h : StreamInv r) (off : r.health = .unconfigured) :
    r = StreamRecord.unconfigured := by
  obtain ⟨-, -, -, -, -, -, -, -, none⟩ := h
  exact none off

/-- A stream whose silence timer runs is one that the table expects (R91, R93). -/
theorem StreamInv.expected_of_silence {r : StreamRecord} (h : StreamInv r) (runs : r.silenceTimer.isSome = true) :
    r.health.expected = true := by
  obtain ⟨-, -, -, -, -, silence, -⟩ := h
  exact silence.mp runs

/-- A stream whose quiet timer runs is judged (R94, R95). -/
theorem StreamInv.judged_of_quiet {r : StreamRecord} (h : StreamInv r) (runs : r.quietTimer.isSome = true) :
    r.health.judged = true := by
  obtain ⟨-, -, -, -, -, -, quiet, -⟩ := h
  exact (quiet.mp runs).1

/-! ### What keeps the laws -/

/-- From record `a` to record `b` the laws are kept, and the stream stays UNCONFIGURED or stays configured (R91). -/
def StreamRecord.KeepsInv (a b : StreamRecord) : Prop :=
  StreamInv a → StreamInv b ∧ (b.health = .unconfigured ↔ a.health = .unconfigured)

theorem StreamRecord.KeepsInv.refl (a : StreamRecord) : a.KeepsInv a := fun h => ⟨h, .rfl⟩

theorem StreamRecord.KeepsInv.of_eq {a b : StreamRecord} (same : b = a) : a.KeepsInv b := same ▸ .refl a

theorem StreamRecord.KeepsInv.trans {a b c : StreamRecord} (h : a.KeepsInv b) (h' : b.KeepsInv c) : a.KeepsInv c :=
  fun ha => ⟨(h' (h ha).1).1, (h' (h ha).1).2.trans (h ha).2⟩

/-- A judged stream that stays judged under the laws. -/
theorem StreamRecord.KeepsInv.of_judged {a b : StreamRecord} (before : a.health.judged = true)
    (after : b.health.judged = true) (laws : a.JudgedLaws → b.JudgedLaws) : a.KeepsInv b := fun h =>
  ⟨(streamInv_judged after).mpr (laws ((streamInv_judged before).mp h)),
    iff_of_false (Health.configured_of_judged after) (Health.configured_of_judged before)⟩

/-- A configured stream that is stopped, or stays so, under the laws. -/
theorem StreamRecord.KeepsInv.of_stopped {a b : StreamRecord} (before : a.health ≠ .unconfigured)
    (after : b.health = .halted ∨ b.health = .quarantined) (laws : StreamInv a → b.StoppedLaws) : a.KeepsInv b := fun h =>
  ⟨(streamInv_stopped after).mpr (laws h),
    iff_of_false (by rcases after with e | e <;> simp [e]) before⟩

/-! ### Each report and event -/

theorem StreamRecord.setAwaiting_inv (now limit : Nat) {r : StreamRecord} (faults : r.faultCount = 0)
    (quiet : r.quietTimer = none) : StreamInv (r.setAwaiting now limit) := by
  refine (streamInv_judged rfl).mpr ⟨?_, ?_, ?_, ?_, ?_, ?_⟩ <;> simp [StreamRecord.setAwaiting, faults, quiet]

/-- A configured stream set awaiting with its faults forgotten (R91). -/
theorem StreamRecord.setAwaiting_keepsInv (now limit : Nat) {a r : StreamRecord} (configured : a.health ≠ .unconfigured)
    (faults : r.faultCount = 0) (quiet : r.quietTimer = none) : a.KeepsInv (r.setAwaiting now limit) := fun _ =>
  ⟨StreamRecord.setAwaiting_inv now limit faults quiet, iff_of_false (by simp [StreamRecord.setAwaiting]) configured⟩

/-- The silence timer's expiry at a stream where it runs (R93). -/
theorem StreamRecord.expireSilence_keepsInv {r : StreamRecord} (runs : r.silenceTimer.isSome = true) :
    r.KeepsInv r.expireSilence := by
  intro h
  have expected := h.expected_of_silence runs
  rw [StreamRecord.expireSilence_expected expected]
  exact StreamRecord.KeepsInv.of_judged ((Health.judged_iff _).mpr (.inl expected)) rfl (fun laws =>
    ⟨laws.faults, laws.miss, laws.onTime, by simp, laws.quiet, by simp⟩) h

/-- The quiet timer's expiry at a stream where it runs (R95). -/
theorem StreamRecord.forgetFaults_keepsInv {r : StreamRecord} (runs : r.quietTimer.isSome = true) :
    r.KeepsInv r.forgetFaults := by
  intro h
  have judged := h.judged_of_quiet runs
  exact StreamRecord.KeepsInv.of_judged judged judged (fun laws =>
    ⟨Nat.zero_le 3, laws.miss, laws.onTime, laws.silence, by simp [StreamRecord.forgetFaults], laws.tracker⟩) h

/-- The common effects of an acceptance at a stream that the table expects, which needs no tracker before (R92). -/
theorem StreamRecord.acceptCommon_inv {r : StreamRecord} (expected : r.health.expected = true) (faults : r.faultCount ≤ 3)
    (miss : r.missStreak ≤ 8) (onTime : r.onTimeStreak ≤ 8) (quiet : r.quietTimer.isSome = true ↔ 1 ≤ r.faultCount)
    (now limit L : Nat) (lane : LaneId) (arrival : Nat) :
    StreamInv (r.acceptCommon now limit L lane arrival) ∧
      (r.acceptCommon now limit L lane arrival).health ≠ .unconfigured := by
  have judged := (Health.judged_iff _).mpr (.inl expected)
  have heard : r.health ≠ .silent := by
    intro e
    simp [e, Health.expected] at expected
  rw [StreamRecord.acceptCommon_expected expected]
  split
  · exact ⟨(streamInv_judged rfl).mpr ⟨faults, miss, onTime, by simp, quiet, by simp⟩, by simp⟩
  · exact ⟨(streamInv_judged (by simpa using judged)).mpr ⟨faults, miss, onTime, by simp [heard], quiet, by simp⟩,
      Health.configured_of_judged judged⟩

/-- An acceptance (R92). -/
theorem StreamRecord.accept_keepsInv (now limit L : Nat) (lane : LaneId) (arrival : Nat) (r : StreamRecord) :
    r.KeepsInv (r.accept now limit L lane arrival) := by
  have returns : r.health.judged = true → r.KeepsInv
      (StreamRecord.acceptCommon now limit L lane arrival { r with health := .live, missStreak := 0, onTimeStreak := 0 }) := by
    intro judged inv
    have laws := (streamInv_judged judged).mp inv
    obtain ⟨after, configured⟩ := StreamRecord.acceptCommon_inv
      (r := { r with health := .live, missStreak := 0, onTimeStreak := 0 }) rfl laws.faults (Nat.zero_le 8)
      (Nat.zero_le 8) laws.quiet now limit L lane arrival
    exact ⟨after, iff_of_false configured (Health.configured_of_judged judged)⟩
  have stays : r.health.expected = true → r.KeepsInv (r.acceptCommon now limit L lane arrival) := by
    intro expected inv
    have judged := (Health.judged_iff _).mpr (.inl expected)
    have laws := (streamInv_judged judged).mp inv
    obtain ⟨after, configured⟩ := StreamRecord.acceptCommon_inv expected laws.faults laws.miss laws.onTime laws.quiet
      now limit L lane arrival
    exact ⟨after, iff_of_false configured (Health.configured_of_judged judged)⟩
  unfold StreamRecord.accept
  cases health : r.health with
  | awaiting | silent => exact returns (by rw [health]; rfl)
  | live | lagging => exact stays (by rw [health]; rfl)
  | unconfigured | quarantined | halted => exact .refl r

/-- A fault (R94, R96). -/
theorem StreamRecord.fault_keepsInv (now : Nat) (k : FaultKind) (r : StreamRecord) : r.KeepsInv (r.fault now k) := by
  rcases r.health.judged_or_stopped with judged | stopped | off
  · intro h
    have below := ((streamInv_judged judged).mp h).faults
    rw [StreamRecord.fault_eq now k r fun _ => below, faulted_of_judged now k judged]
    split
    · exact StreamRecord.KeepsInv.of_stopped (Health.configured_of_judged judged) (.inr rfl)
        (fun _ => ⟨by simp, by simp, by simp, by simp, rfl, rfl⟩) h
    next early =>
      refine StreamRecord.KeepsInv.of_judged judged judged (fun laws =>
        ⟨?_, laws.miss, laws.onTime, laws.silence, by simp, laws.tracker⟩) h
      dsimp only
      omega
  · rcases stopped with e | e
    · exact .of_eq (by simp [StreamRecord.fault, e])
    · have noted : r.fault now k = { r with lastFault := some k } := by simp [StreamRecord.fault, e]
      rw [noted]
      exact .of_stopped (by simp [e]) (.inr e) fun h =>
        have laws := (streamInv_stopped (.inr e)).mp h
        ⟨laws.faults, laws.miss, laws.onTime, laws.limit, laws.silence, laws.quiet⟩
  · exact .of_eq (by simp [StreamRecord.fault, off])

/-- A HALT effect (R98). -/
theorem StreamRecord.halt_keepsInv (r : StreamRecord) : r.KeepsInv r.halt := by
  obtain ⟨unconfigured, configured⟩ := r.halt_spec
  by_cases off : r.health = .unconfigured
  · exact .of_eq (unconfigured off)
  · rw [configured off]
    exact .of_stopped off (.inl rfl) fun ⟨faults, _⟩ => ⟨faults, by simp, by simp, by simp, rfl, rfl⟩

/-- A RESUME effect (R99). -/
theorem StreamRecord.resume_keepsInv (now limit : Nat) (r : StreamRecord) : r.KeepsInv (r.resume now limit) := by
  unfold StreamRecord.resume
  split
  next halted => exact StreamRecord.setAwaiting_keepsInv now limit (by simp [halted]) rfl rfl
  next => exact .refl r

/-- A LIVE or LAGGING stream moves between the two as its streaks change (R101). -/
theorem StreamRecord.KeepsInv.of_streaks {r : StreamRecord} {h : Health} {miss onTime : Nat}
    (before : r.health = .live ∨ r.health = .lagging) (after : h = .live ∨ h = .lagging) (missLe : miss ≤ 8)
    (onTimeLe : onTime ≤ 8) : r.KeepsInv { r with missStreak := miss, onTimeStreak := onTime, health := h } := by
  have judged : r.health.judged = true := by rcases before with e | e <;> rw [e] <;> rfl
  have loud : r.health ≠ .silent := by rcases before with e | e <;> simp [e]
  refine .of_judged judged (by rcases after with e | e <;> rw [e] <;> rfl) fun laws =>
    ⟨laws.faults, missLe, onTimeLe, laws.silence.trans (iff_of_true loud ?_), laws.quiet, fun _ => laws.tracker before⟩
  rcases after with e | e <;> simp [e]

/-- An item of a presence report (R100, R101). -/
theorem StreamRecord.presence_keepsInv (present : Bool) (r : StreamRecord) : r.KeepsInv (r.presence present) := by
  have either : ∀ (c : Prop) [Decidable c] {a b : Health}, (a = .live ∨ a = .lagging) → (b = .live ∨ b = .lagging) →
      (if c then a else b) = .live ∨ (if c then a else b) = .lagging := by
    intro c _ a b ha hb
    split
    · exact ha
    · exact hb
  have miss : (if present then 0 else min (r.missStreak + 1) 8) ≤ 8 := by split <;> omega
  have onTime : (if present then min (r.onTimeStreak + 1) 8 else 0) ≤ 8 := by split <;> omega
  rw [StreamRecord.presence_eq]
  unfold reported
  dsimp only
  split
  next live => exact .of_streaks (.inl live) (either _ (.inr rfl) (.inl rfl)) miss onTime
  next =>
    split
    next lagging => exact .of_streaks (.inr lagging) (either _ (.inl rfl) (.inr rfl)) miss onTime
    next => exact .refl r

/-- A clear (R109). -/
theorem StreamRecord.clear_keepsInv (now limit : Nat) (r : StreamRecord) : r.KeepsInv (r.clear now limit) := by
  obtain ⟨judged, stopped, unconfigured⟩ := r.clear_spec now limit
  rcases r.health.judged_or_stopped with h | h | h
  · rw [judged h]
    exact .of_judged h rfl fun _ =>
      ⟨Nat.zero_le 3, Nat.zero_le 8, Nat.zero_le 8, by simp, by simp, by simp⟩
  · rw [stopped h]
    refine .of_stopped (by rcases h with e | e <;> simp [e]) h fun inv => ?_
    have laws := (streamInv_stopped h).mp inv
    exact ⟨laws.faults, by simp, by simp, laws.limit, laws.silence, laws.quiet⟩
  · exact .of_eq (unconfigured h)

/-- The decay of the peak figure (R103). -/
theorem StreamRecord.decayPeak_keepsInv (r : StreamRecord) : r.KeepsInv r.decayPeak := by
  rcases r.health.judged_or_stopped with judged | stopped | off
  · exact .of_judged judged judged fun laws => ⟨laws.faults, laws.miss, laws.onTime, laws.silence, laws.quiet,
      by simpa [StreamRecord.decayPeak] using laws.tracker⟩
  · refine .of_stopped (by rcases stopped with e | e <;> simp [e]) stopped fun inv => ?_
    have laws := (streamInv_stopped stopped).mp inv
    exact ⟨laws.faults, laws.miss, laws.onTime, laws.limit, laws.silence, laws.quiet⟩
  · intro h
    obtain rfl := h.eq_unconfigured off
    exact ⟨h, .rfl⟩

end Sys2Proof.Machine
end

section
/-! PROOFS. The stream supervisor's invariant (O56): what leaves it standing said once for every command, the second boundary
and the activations that set it anew, and the worst-latency list (R89 to R109). -/

namespace Sys2Proof.Machine

/-! ### The frame -/

/-- From `s` to `t` the roles of the banks, the active bank's contents and the fast wait stand; every stream's record keeps
its laws; the worst-latency list loses entries at most. -/
structure KeepsSupervision (s t : State) : Prop where
  active : t.store.active = s.store.active
  standby : t.store.standby = s.store.standby
  bank : ∀ a, s.store.active = some a → s.store.standby ≠ a → t.store.bank a = s.store.bank a
  streams : ∀ i : StreamId, s.supervisor.streams[i].KeepsInv t.supervisor.streams[i]
  worst : t.supervisor.worst.Sublist s.supervisor.worst
  fastWait : t.supervisor.fastWait = s.supervisor.fastWait

/-- A command that leaves the supervisor, the banks and their roles as they are. -/
theorem KeepsSupervision.of_same {s t : State} (supervisor : t.supervisor = s.supervisor)
    (active : t.store.active = s.store.active) (standby : t.store.standby = s.store.standby)
    (banks : t.store.banks = s.store.banks) : KeepsSupervision s t where
  active := active
  standby := standby
  bank a _ _ := by rw [ProfileStore.bank, banks, ProfileStore.bank]
  streams i := by rw [supervisor]; exact .refl _
  worst := by rw [supervisor]
  fastWait := by rw [supervisor]

theorem KeepsSupervision.of_blocks {s t : State} (supervisor : t.supervisor = s.supervisor) (store : t.store = s.store) :
    KeepsSupervision s t := .of_same supervisor (by rw [store]) (by rw [store]) (by rw [store])

theorem KeepsSupervision.refl (s : State) : KeepsSupervision s s := .of_blocks rfl rfl

theorem KeepsSupervision.trans {s t u : State} (h : KeepsSupervision s t) (h' : KeepsSupervision t u) :
    KeepsSupervision s u where
  active := h'.active.trans h.active
  standby := h'.standby.trans h.standby
  bank a ha apart := (h'.bank a (h.active.trans ha) (by rwa [h.standby])).trans (h.bank a ha apart)
  streams i := (h.streams i).trans (h'.streams i)
  worst := h'.worst.trans h.worst
  fastWait := h'.fastWait.trans h.fastWait

/-- A change that moves neither the supervisor nor the store may follow. -/
theorem KeepsSupervision.and_same {s t u : State} (h : KeepsSupervision s t) (supervisor : u.supervisor = t.supervisor)
    (store : u.store = t.store) : KeepsSupervision s u := h.trans (.of_blocks supervisor store)

/-- Which indices the active bank enables is read from the active bank alone (R91). -/
theorem KeepsSupervision.activeEnabled {s t : State} (k : KeepsSupervision s t)
    (apart : ∀ a, s.store.active = some a → s.store.standby ≠ a) (i : StreamId) :
    t.store.activeEnabled i = s.store.activeEnabled i := by
  unfold ProfileStore.activeEnabled ProfileStore.activeBank
  rw [k.active]
  cases active : s.store.active with
  | none => rfl
  | some a => simp [k.bank a active (apart a active)]

/-- What keeps the frame keeps the supervisor's laws. -/
theorem KeepsSupervision.supervisorInv {s t : State} (k : KeepsSupervision s t)
    (apart : ∀ a, s.store.active = some a → s.store.standby ≠ a) (h : SupervisorInv s) : SupervisorInv t := by
  obtain ⟨streams, bank, wait, length, nodup⟩ := h
  refine ⟨fun i => ?_, ?_, fun a active => ?_, k.worst.length_le.trans length, nodup.sublist k.worst⟩
  · obtain ⟨record, configured⟩ := streams i
    obtain ⟨kept, same⟩ := k.streams i record
    rw [k.activeEnabled apart]
    exact ⟨kept, same.trans configured⟩
  · rw [k.fastWait, k.active, bank]
  · have before := k.active ▸ active
    rw [k.fastWait, k.bank a before (apart a before)]
    exact wait a before

theorem SupervisorInv.of_blocks {s t : State} (h : SupervisorInv s) (supervisor : t.supervisor = s.supervisor)
    (store : t.store = s.store) : SupervisorInv t := by
  unfold SupervisorInv
  rw [supervisor, store]
  exact h

/-! ### The supervisor's reports -/

theorem KeepsSupervision.updStream (s : State) (i : StreamId) {f : StreamRecord → StreamRecord}
    (h : s.supervisor.streams[i].KeepsInv (f s.supervisor.streams[i])) : KeepsSupervision s (s.updStream i f) where
  active := by simp
  standby := by simp
  bank a _ _ := by simp
  streams j := by
    rw [State.updStream_supervisor]
    by_cases e : j = i
    · subst e
      simpa using h
    · simpa [e] using StreamRecord.KeepsInv.refl _
  worst := by simp
  fastWait := by simp

theorem KeepsSupervision.presenceReport (s : State) (items : List (StreamId × Bool)) :
    KeepsSupervision s (s.presenceReport items) := by
  unfold State.presenceReport
  induction items generalizing s with
  | nil => exact .refl s
  | cons item items ih =>
    rw [List.foldl_cons]
    have first := KeepsSupervision.updStream s item.1 (StreamRecord.presence_keepsInv item.2 _)
    exact first.trans (ih _)

theorem KeepsSupervision.releasePass (s : State) : KeepsSupervision s s.releasePass := by
  have fold : ∀ (cuts : List Slot) (u : State),
      KeepsSupervision u (cuts.foldl (fun s sl => s.presenceReport (presenceItems s.store sl)) u) := by
    intro cuts
    induction cuts with
    | nil => exact .refl
    | cons sl cuts ih => exact fun u => (KeepsSupervision.presenceReport u _).trans (ih _)
  have cut : KeepsSupervision s { s with table := s.table.release } := .of_blocks rfl rfl
  exact cut.trans (fold s.table.fastCuts _)

theorem KeepsSupervision.faultReport (s : State) (i : StreamId) (k : FaultKind) :
    KeepsSupervision s (s.faultReport i k) :=
  (KeepsSupervision.updStream s i (StreamRecord.fault_keepsInv s.timebase.elapsed k _)).and_same
    (by simp [State.faultReport_supervisor]) (by simp)

theorem KeepsSupervision.acceptance (s : State) (i : StreamId) (L : Nat) (lane : LaneId) (arrival : Nat) :
    KeepsSupervision s (s.acceptance i L lane arrival) :=
  .updStream s i (StreamRecord.accept_keepsInv _ _ L lane arrival _)

/-! ### The table -/

/-- Slots changed, and a release pass run (R80). -/
theorem KeepsSupervision.withTable_releasePass (s : State) (t : AlignTable) :
    KeepsSupervision s ({ s with table := t } : State).releasePass :=
  KeepsSupervision.trans (t := { s with table := t }) (.of_blocks rfl rfl) (.releasePass _)

theorem KeepsSupervision.fastDeadline (s : State) (e : EpochKey) : KeepsSupervision s (s.fastDeadline e) := by
  unfold State.fastDeadline
  split
  · split
    · exact .withTable_releasePass s _
    · exact .refl s
  · exact .refl s

theorem KeepsSupervision.fullDeadline (s : State) (e : EpochKey) : KeepsSupervision s (s.fullDeadline e) := by
  unfold State.fullDeadline
  split
  · split
    · exact .withTable_releasePass s _
    · exact .refl s
  · exact .refl s

theorem KeepsSupervision.expireDeadlines (s : State) (es : List EpochKey) :
    KeepsSupervision s (s.expireDeadlines es) := by
  unfold State.expireDeadlines
  induction es generalizing s with
  | nil => exact .refl s
  | cons e es ih => exact ((KeepsSupervision.fastDeadline s e).trans (.fullDeadline _ e)).trans (ih _)

theorem KeepsSupervision.expireAll (s : State) : KeepsSupervision s s.expireAll := .expireDeadlines s _

theorem KeepsSupervision.openSlot (s : State) (e : EpochKey) : KeepsSupervision s (s.openSlot e).1 :=
  .of_blocks (by simp) (by simp)

theorem KeepsSupervision.epochBoundary (s : State) : KeepsSupervision s s.epochBoundary := by
  unfold State.epochBoundary
  split
  · split
    · exact (KeepsSupervision.openSlot s _).trans (.expireDeadlines _ _)
    · exact .refl s
  · exact .refl s

theorem KeepsSupervision.storeRecord (s : State) (r : PlacedRecord) : KeepsSupervision s (s.storeRecord r) :=
  .withTable_releasePass s _

theorem KeepsSupervision.takeNew (s : State) (r : PlacedRecord) : KeepsSupervision s (s.takeNew r).1 := by
  have taken : ∀ (u : State) es, KeepsSupervision u ((u.storeRecord r).expireDeadlines es) := fun u es =>
    (KeepsSupervision.storeRecord u r).trans (.expireDeadlines _ es)
  have first : ∀ (b : Bool) (c : EpochKey), KeepsSupervision s (if b then s.openSlot c else (s, false)).1 := by
    intro b c
    split
    · exact .openSlot s c
    · exact .refl s
  unfold State.takeNew
  split
  · exact .refl s
  next c _ =>
    split
    · exact .refl s
    split
    · exact .refl s
    split
    · exact .refl s
    split
    · dsimp only
      split
      · exact (KeepsSupervision.openSlot s c).trans (taken _ _)
      · exact .openSlot s c
    split
    · dsimp only
      have opened := (first (opens s.table.horizon c && (s.table.find c).isNone) c).trans (.openSlot _ r.key)
      generalize (if (opens s.table.horizon c && (s.table.find c).isNone) = true then s.openSlot c else (s, false)) = o
        at opened ⊢
      generalize (if o.2 = true then [c, r.key] else [r.key]) = es
      split
      · exact opened.trans (taken _ _)
      · exact opened.trans (.expireDeadlines _ _)
    · exact .refl s

theorem KeepsSupervision.takeRecord (s : State) (r : PlacedRecord) : KeepsSupervision s (s.takeRecord r).1 := by
  unfold State.takeRecord
  split
  · exact .takeNew s r
  split
  · exact .refl s
  split
  · exact .refl s
  split
  · split
    · exact .refl s
    · have marked : KeepsSupervision s
          (({ s with table := s.table.modify r.key (Slot.markConflict r.stream) } : State).latchAll .conflict) :=
        .of_blocks (by simp) (by simp)
      dsimp only
      split
      · exact marked.trans (.faultReport _ _ _)
      · exact marked
  · exact .storeRecord s r

theorem KeepsSupervision.tableTake (s : State) : KeepsSupervision s s.tableTake := by
  unfold State.tableTake
  split
  · exact .refl s
  next r _ =>
    refine KeepsSupervision.and_same (t := if (s.takeRecord r).2.accepted && r.supervised then
      (s.takeRecord r).1.acceptance r.stream r.latency r.lane r.arrivalElapsed else (s.takeRecord r).1) ?_ rfl rfl
    split
    · exact (KeepsSupervision.takeRecord s r).trans (.acceptance _ _ _ _ _)
    · exact .takeRecord s r

/-! ### The arbiter and the relay -/

theorem KeepsSupervision.applyPlacement (s : State) (pl : Placement) : KeepsSupervision s (s.applyPlacement pl) := by
  cases pl with
  | dropped => exact .refl s
  | unknownSource => exact .of_blocks (by simp [State.applyPlacement]) (by simp)
  | fault sup k =>
    cases sup with
    | none => exact .refl s
    | some i => exact .faultReport s i k
  | placed r => exact .of_blocks rfl rfl

theorem KeepsSupervision.commandEffect (s : State) (i : StreamId) (a : Action) :
    KeepsSupervision s (s.commandEffect i a) := by
  cases a with
  | halt => exact .updStream s i (StreamRecord.halt_keepsInv _)
  | resume => exact .updStream s i (StreamRecord.resume_keepsInv _ _ _)
  | echo => exact .refl s

theorem KeepsSupervision.completeCommand (s : State) (i : StreamId) (c : CommandSlot) (r : AckResult) (arrival : Nat) :
    KeepsSupervision s (s.completeCommand i c r arrival) := by
  refine KeepsSupervision.and_same (t := if s.effectApplies i c r then s.commandEffect i c.action else s) ?_
    (by simp [State.completeCommand]) (by simp [State.completeCommand])
  split
  · exact .commandEffect s i c.action
  · exact .refl s

theorem KeepsSupervision.arbiterTake (s : State) : KeepsSupervision s s.arbiterTake := by
  have routed : ∀ (u : State) (item : QueueItem), KeepsSupervision u (u.routeItem item) := by
    intro u item
    unfold State.routeItem
    split
    · unfold State.acknowledge
      split
      · exact .completeCommand u _ _ _ _
      · exact .refl u
    · split
      · exact .applyPlacement u _
      · exact .refl u
  unfold State.arbiterTake
  split
  · exact KeepsSupervision.trans (.of_blocks (by simp) (by simp)) (routed (s.dequeue _ _) _)
  · exact .refl s

/-! ### The profile store -/

theorem KeepsSupervision.setClaim (s : State) (c : Option Claim) : KeepsSupervision s (s.setClaim c) :=
  .of_same rfl rfl rfl rfl

theorem KeepsSupervision.renewClaim (s : State) (p : PortId) : KeepsSupervision s (s.renewClaim p) := by
  unfold State.renewClaim
  split
  · exact .setClaim s _
  · exact .refl s

theorem KeepsSupervision.claimExpiry (s : State) : KeepsSupervision s s.claimExpiry := by
  unfold State.claimExpiry
  split
  · split
    · exact (KeepsSupervision.setClaim s none).and_same (by simp) (by simp)
    · exact .refl s
  · exact .refl s

theorem KeepsSupervision.endDraining (s : State) : KeepsSupervision s s.endDraining := by
  unfold State.endDraining
  repeat' split
  all_goals exact .of_same rfl rfl rfl rfl

theorem KeepsSupervision.beginEdit (s : State) (p : PortId) : KeepsSupervision s (s.beginEdit p).1 := by
  unfold State.beginEdit
  repeat' split
  all_goals exact .of_same rfl rfl rfl rfl

theorem KeepsSupervision.abandonEdit (s : State) (p : PortId) : KeepsSupervision s (s.abandonEdit p).1 := by
  unfold State.abandonEdit
  split <;> exact .of_same rfl rfl rfl rfl

theorem KeepsSupervision.profileCursor (s : State) (p : PortId) (selector : Byte) (address : BitVec 16) (mode : Byte) :
    KeepsSupervision s (s.profileCursor p selector address mode).1 := by
  unfold State.profileCursor
  split
  · exact (KeepsSupervision.renewClaim s p).and_same rfl rfl
  · exact .renewClaim s p

theorem KeepsSupervision.profileGet (s : State) (p : PortId) (count : Byte) :
    KeepsSupervision s (s.profileGet p count).1 := by
  unfold State.profileGet
  dsimp only
  split
  · exact .renewClaim s p
  split
  · exact .renewClaim s p
  split
  · exact .renewClaim s p
  · exact (KeepsSupervision.renewClaim s p).and_same rfl rfl

/-- Stored values reach the standby bank alone (R120). -/
theorem KeepsSupervision.setStandby (s : State) (b : Bank) : KeepsSupervision s (s.setStandby b) where
  active := rfl
  standby := rfl
  bank _ _ apart := update_get_ne _ _ (Ne.symm apart)
  streams _ := .refl _
  worst := .refl _
  fastWait := rfl

theorem KeepsSupervision.profilePut (s : State) (p : PortId) (values : List Word) :
    KeepsSupervision s (s.profilePut p values).1 := by
  unfold State.profilePut
  split
  · dsimp only
    split
    · exact .setClaim s _
    · exact ((KeepsSupervision.setClaim s _).trans (.setStandby _ _)).and_same rfl rfl
  · exact .refl s

theorem KeepsSupervision.commitAtSecond (s : State) (p : PortId) (mode : Byte) (S : Nat) :
    KeepsSupervision s (s.commitAtSecond p mode S).1 := by
  unfold State.commitAtSecond State.refuseCommit
  repeat' split
  all_goals exact .of_same rfl rfl rfl rfl

theorem KeepsSupervision.cancelSwitch (s : State) : KeepsSupervision s s.cancelSwitch.1 := by
  unfold State.cancelSwitch
  split <;> exact .of_same rfl rfl rfl rfl

/-! ### The other requests -/

/-- RELEASE STREAM reaches a QUARANTINED stream (R97). -/
theorem KeepsSupervision.releaseStream (s : State) (index : Byte) : KeepsSupervision s (s.releaseStream index).1 := by
  unfold State.releaseStream
  split
  · exact .refl s
  split
  next quarantined =>
    exact .updStream s _ (StreamRecord.setAwaiting_keepsInv _ _ (by rw [quarantined]; decide) rfl rfl)
  next => exact .refl s

theorem KeepsSupervision.clearAlignment (s : State) : KeepsSupervision s s.clearAlignment.1 where
  active := by simp [State.clearAlignment]
  standby := by simp [State.clearAlignment]
  bank a _ _ := by simp [State.clearAlignment]
  streams i := by
    rw [State.clearAlignment_stream]
    exact StreamRecord.clear_keepsInv _ _ _
  worst := by simp [State.clearAlignment, State.supervisorClear]
  fastWait := by simp [State.clearAlignment, State.supervisorClear]

theorem KeepsSupervision.portReset (s : State) (p : PortId) : KeepsSupervision s (s.portReset p).1 := by
  unfold State.portReset
  dsimp only
  split <;> exact .of_same rfl rfl rfl rfl

theorem KeepsSupervision.streamCommand (s : State) (p : PortId) (index action : Byte) :
    KeepsSupervision s (s.streamCommand p index action).1 := by
  unfold State.streamCommand
  repeat' split
  all_goals exact .of_same rfl rfl rfl rfl

theorem KeepsSupervision.readSnapshotNext (s : State) (p : PortId) (kind : Byte) :
    KeepsSupervision s (s.readSnapshotNext p kind).1 := by
  unfold State.readSnapshotNext State.readNext
  dsimp only
  repeat' split
  all_goals exact .of_blocks rfl rfl

theorem KeepsSupervision.readSnapshotSequence (s : State) (p : PortId) (kind target : Byte) (n : Nat) :
    KeepsSupervision s (s.readSnapshotSequence p kind target n).1 := by
  unfold State.readSnapshotSequence
  repeat' split
  all_goals exact .refl s

theorem KeepsSupervision.setMask (s : State) (p : PortId) (count : Byte) (kinds : List Byte) :
    KeepsSupervision s (s.setMask p count kinds).1 := by
  unfold State.setMask
  split <;> exact .of_blocks rfl rfl

theorem KeepsSupervision.subscribe (s : State) (p : PortId) (kinds start count : Byte) (indices : List Byte) :
    KeepsSupervision s (s.subscribe p kinds start count indices).1 := by
  unfold State.subscribe
  split <;> exact .of_blocks rfl rfl

theorem KeepsSupervision.readStreamDetail (s : State) (index : Byte) :
    KeepsSupervision s (s.readStreamDetail index).1 := by
  unfold State.readStreamDetail
  split <;> exact .refl s

theorem KeepsSupervision.acceptReference (s : State) : KeepsSupervision s s.acceptReference.1 := by
  unfold State.acceptReference
  split <;> exact .of_blocks rfl rfl

/-! ### Timers -/

/-- A timer that is due runs (R1). -/
theorem State.running_of_due (s : State) {timer : Option Nat} (due : s.timerDue timer = true) : timer.isSome = true := by
  obtain ⟨d, set, -⟩ := (s.timerDue_iff timer).mp due
  rw [set]
  rfl

/-- The end of a pause expires deadlines alone in the supervisor (R3, R12). -/
theorem KeepsSupervision.pauseEnd (s : State) : KeepsSupervision s s.pauseEnd := by
  unfold State.pauseEnd
  split
  · have ended (a : Acceptance) : KeepsSupervision s { s with
        timebase := { s.timebase with correction := .none, acceptance := a } } := .of_blocks rfl rfl
    exact (ended _).trans (.expireAll _)
  · exact .refl s

end Sys2Proof.Machine
end

section
/-! PROOFS. The stream supervisor's invariant (O56): the fast wait within its bounds, activations, the second boundary, the
PPS, the resets, and every command (R91, R104 to R108, R113). -/

namespace Sys2Proof.Machine

/-! ### The fast wait -/

/-- The bounds a fast wait keeps under a bank (R105, R106). -/
def Bank.WaitFits (b : Bank) (ms : Nat) : Prop :=
  ms ≤ b.fullWait ∧ (b.adaptive = true → b.fastMin ≤ ms ∧ ms ≤ b.fastMax)

/-- The waits of a validated bank are in order (R126). -/
theorem Bank.waits_of_validated {b : Bank} (passes : b.failing = none) :
    b.fixedWait ≤ b.fullWait ∧ b.fastMin ≤ b.fastMax ∧ b.fastMax ≤ b.fullWait := by
  have holds : ∀ x ∈ globalChecks b, x.2 = false := fun x hx =>
    firstFailure_eq_none.mp passes x (List.mem_append_left _ (List.mem_append_left _ hx))
  have fixed := holds (2, decide (b.fullWait < b.fixedWait)) (by simp [globalChecks])
  have range := holds (5, decide (b.fastMax < b.fastMin)) (by simp [globalChecks])
  have full := holds (6, decide (b.fullWait < b.fastMax)) (by simp [globalChecks])
  simp only [decide_eq_false_iff_not, Nat.not_lt] at fixed range full
  exact ⟨fixed, range, full⟩

theorem Bank.initialFastWait_fits {b : Bank} (passes : b.failing = none) : b.WaitFits (initialFastWait b) := by
  obtain ⟨fixed, range, full⟩ := b.waits_of_validated passes
  unfold initialFastWait
  split
  next => exact ⟨full, fun _ => ⟨range, Nat.le_refl _⟩⟩
  next off => exact ⟨fixed, fun on => absurd on off⟩

theorem Bank.secondFastWait_fits {b : Bank} (passes : b.failing = none) (streams : Vector StreamRecord 48) :
    b.WaitFits (secondFastWait b streams) := by
  obtain ⟨fixed, range, full⟩ := b.waits_of_validated passes
  unfold secondFastWait
  split
  next =>
    split
    · exact ⟨full, fun _ => ⟨range, Nat.le_refl _⟩⟩
    · unfold raiseThenLower
      exact ⟨(Nat.min_le_right _ _).trans full, fun _ => ⟨le_min (Nat.le_max_right _ _) range, Nat.min_le_right _ _⟩⟩
  next off => exact ⟨fixed, fun on => absurd on off⟩

/-! ### The second's work and activations -/

/-- The supervisor's work of a second keeps its laws, with a validated bank active (R103 to R107). -/
theorem SupervisorInv.second {s : State} (h : SupervisorInv s)
    (validated : ∀ a, s.store.active = some a → (s.store.bank a).failing = none) (x : Nat) :
    SupervisorInv (s.supervisorSecond x) := by
  obtain ⟨streams, bank, -⟩ := h
  obtain ⟨decayed, -, inactive, set⟩ := s.supervisorSecond_spec x
  unfold SupervisorInv
  rw [State.supervisorSecond_store, State.supervisorSecond_worst]
  refine ⟨fun i => ?_, ?_, fun a active => ?_, worstList_length _, worstList_nodup _⟩
  · obtain ⟨record, configured⟩ := streams i
    rw [decayed i]
    obtain ⟨kept, same⟩ := StreamRecord.decayPeak_keepsInv _ record
    exact ⟨kept, same.trans configured⟩
  · cases active : s.store.active with
    | none => rw [inactive active, bank, active]
    | some a => rw [set a active]
  · have fits := (s.store.bank a).secondFastWait_fits (validated a active) (s.supervisorSecond x).supervisor.streams
    have wait : (s.supervisorSecond x).supervisor.fastWait.ms = _ := congrArg FastWait.ms (set a active)
    rw [wait]
    exact fits

/-- What an activation makes of a stream's record: UNCONFIGURED where the new bank does not enable it, kept where the old
bank enabled it too, or set awaiting (R108). -/
theorem StreamRecord.carryOver_cases (now : Nat) (old : Option Bank) (new : Bank) (i : StreamId) (r : StreamRecord) :
    (new.enabled i = false ∧ r.carryOver now old new i = .unconfigured) ∨
    (new.enabled i = true ∧
      ((∃ o, old = some o ∧ o.enabled i = true ∧ r.carryOver now old new i = r) ∨
        r.carryOver now old new i = StreamRecord.unconfigured.setAwaiting now new.silenceLimit)) := by
  cases on : new.enabled i with
  | false => exact .inl ⟨rfl, by simp [StreamRecord.carryOver, on]⟩
  | true =>
    refine .inr ⟨rfl, ?_⟩
    unfold StreamRecord.carryOver
    rw [if_pos on]
    cases old with
    | none => exact .inr rfl
    | some o =>
      by_cases kept : o.enabled i = true ∧ o.station i = new.station i
      · exact .inl ⟨o, rfl, kept.1, if_pos kept⟩
      · exact .inr (if_neg kept)

/-- A stream's record after an activation keeps the laws, and is UNCONFIGURED where the new bank does not enable it (R91,
R108). -/
theorem SupervisorInv.activate_stream {s : State} (h : SupervisorInv s) (x : Option Nat) (d : Option Draining)
    (i : StreamId) : StreamInv (s.activate x d).supervisor.streams[i] ∧
      ((s.activate x d).supervisor.streams[i].health = .unconfigured ↔
        (s.store.bank s.store.standby).enabled i = false) := by
  obtain ⟨record, configured⟩ := h.1 i
  rw [State.activate_stream]
  rcases StreamRecord.carryOver_cases s.timebase.elapsed s.store.activeBank (s.store.bank s.store.standby) i
    s.supervisor.streams[i] with ⟨off, e⟩ | ⟨on, ⟨o, old, was, e⟩ | e⟩
  · rw [e]
    exact ⟨.unconfigured, iff_of_true rfl off⟩
  · have running : s.store.activeEnabled i = true := by
      rw [ProfileStore.activeEnabled, old]
      exact was
    rw [e, configured, running, on]
    exact ⟨record, .rfl⟩
  · rw [e, on]
    exact ⟨StreamRecord.setAwaiting_inv _ _ rfl rfl, by simp [StreamRecord.setAwaiting]⟩

/-- An activation of a validated bank keeps the supervisor's laws (R108). -/
theorem SupervisorInv.activate {s : State} (h : SupervisorInv s)
    (validated : (s.store.bank s.store.standby).failing = none) (x : Option Nat) (d : Option Draining) :
    SupervisorInv (s.activate x d) := by
  have records := h.activate_stream x d
  obtain ⟨-, -, -, length, nodup⟩ := h
  have supervisor := s.activate_supervisor x d
  refine ⟨fun i => ?_, by rw [supervisor, State.activate_store], fun a active => ?_, ?_, ?_⟩
  · have enabled : (s.activate x d).store.activeEnabled i = (s.store.bank s.store.standby).enabled i := by
      rw [State.activate_store]
      rfl
    rw [enabled]
    exact records i
  · rw [State.activate_store] at active ⊢
    obtain rfl := Option.some.inj active
    rw [supervisor]
    exact Bank.initialFastWait_fits validated
  · rw [supervisor]
    exact (List.length_filter_le _ _).trans length
  · rw [supervisor]
    exact nodup.filter _

/-! ### Both invariants -/

/-- The laws of the profile store and of the supervisor together: an activation takes its bank from the store. -/
structure State.SupervisionInv (s : State) : Prop where
  store : StoreInv s.store
  supervisor : SupervisorInv s

theorem State.SupervisionInv.apart {s : State} (h : s.SupervisionInv) (a : BankId) (active : s.store.active = some a) :
    s.store.standby ≠ a := (h.store.1 a active).1

theorem State.SupervisionInv.validated {s : State} (h : s.SupervisionInv) (a : BankId)
    (active : s.store.active = some a) : (s.store.bank a).failing = none := (h.store.1 a active).2

theorem State.SupervisionInv.of_keeps {s t : State} (h : s.SupervisionInv) (keeps : KeepsSupervision s t)
    (store : t.store = s.store) : t.SupervisionInv :=
  ⟨by rw [store]; exact h.store, keeps.supervisorInv h.apart h.supervisor⟩

theorem State.SupervisionInv.of_blocks {s t : State} (h : s.SupervisionInv) (supervisor : t.supervisor = s.supervisor)
    (store : t.store = s.store) : t.SupervisionInv := h.of_keeps (.of_blocks supervisor store) store

/-- The store's laws after the activation of a pending switch (R128, R131). -/
theorem StoreInv.activate {s : State} (h : StoreInv s.store) (pending : s.store.pendingSwitch.isSome = true)
    (x : Option Nat) (d : Option Draining) : StoreInv (s.activate x d).store := by
  obtain ⟨-, switch, -⟩ := h
  obtain ⟨-, claim, -, passes⟩ := switch pending
  rw [State.activate_store]
  refine ⟨fun a active => ?_, fun none => ?_, fun _ => ⟨rfl, claim⟩⟩
  · obtain rfl := Option.some.inj active
    exact ⟨otherBank_ne _, passes⟩
  · cases none

/-- A second boundary, with a pending switch or without (R104, R131). -/
theorem State.SupervisionInv.takeSecond {s : State} (h : s.SupervisionInv) (x : Nat) : (s.takeSecond x).SupervisionInv := by
  have second : (s.supervisorSecond x).SupervisionInv :=
    ⟨by rw [State.supervisorSecond_store]; exact h.store, h.supervisor.second h.validated x⟩
  by_cases early : ∀ S, s.store.pendingSwitch = some S → x < S
  · obtain ⟨supervisor, store⟩ := State.takeSecond_early early
    exact second.of_blocks supervisor (store.trans (s.supervisorSecond_store x).symm)
  · simp only [not_forall, Nat.not_lt] at early
    obtain ⟨S, pending, come⟩ := early
    have switch : (s.supervisorSecond x).store.pendingSwitch.isSome = true := by
      rw [State.supervisorSecond_store, pending]
      rfl
    obtain ⟨-, -, -, passes⟩ := second.store.2.1 switch
    have activated : ((s.supervisorSecond x).activate (some S) (s.drainingAt S)).SupervisionInv :=
      ⟨second.store.activate switch _ _, second.supervisor.activate passes _ _⟩
    rw [State.takeSecond_switch pending come]
    exact activated.of_blocks rfl rfl

theorem State.SupervisionInv.takeDueSecond {s : State} (h : s.SupervisionInv) : s.takeDueSecond.SupervisionInv := by
  unfold State.takeDueSecond
  split
  · exact h.takeSecond _
  · exact h

theorem State.SupervisionInv.epochBoundary {s : State} (h : s.SupervisionInv) : s.epochBoundary.SupervisionInv :=
  h.of_keeps (.epochBoundary s) (by simp)

/-! ### The PPS -/

theorem State.SupervisionInv.stepTo {s : State} (h : s.SupervisionInv) (x : Nat) : (s.stepTo x).SupervisionInv := by
  have reached := h.takeDueSecond.epochBoundary
  have stepped : (s.takeDueSecond.epochBoundary.setLocal x).raiseDiscontinuity.SupervisionInv :=
    reached.of_blocks (by simp) (by simp)
  have expired : (s.takeDueSecond.epochBoundary.setLocal x).raiseDiscontinuity.expireAll.SupervisionInv :=
    stepped.of_keeps (.expireAll _) (by simp)
  exact (expired.takeSecond x).epochBoundary

theorem State.SupervisionInv.correct {s : State} (h : s.SupervisionInv) (x : Nat) (e : Int) (w : Bool) :
    (s.correct x e w).SupervisionInv := by
  unfold State.correct
  split
  · exact h
  split
  · exact h.of_blocks rfl rfl
  split
  · exact h.stepTo x
  · exact h.of_blocks (by simp) (by simp)

theorem State.SupervisionInv.applyUnset {s : State} (h : s.SupervisionInv) (x : Nat) :
    (s.applyUnset x).SupervisionInv := by
  have locked : (if (s.setLocal x).lock.store.active.isSome then (s.setLocal x).lock.handMark
      else (s.setLocal x).lock).SupervisionInv := by
    split
    · exact h.of_blocks (by simp) (by simp)
    · exact h.of_blocks (by simp) (by simp)
  exact (locked.takeSecond x).epochBoundary

theorem State.SupervisionInv.applyError {s : State} (h : s.SupervisionInv) (x : Nat) (e : Int) :
    (s.applyError x e).SupervisionInv := by
  unfold State.applyError
  split
  · exact h.of_blocks (by simp) (by simp)
  · have settled : ((s.setCorrection .none).lock.settleAcceptance e).SupervisionInv :=
      h.of_blocks (by simp) (by simp)
    exact settled.correct x e _

theorem State.SupervisionInv.ppsEdge {s : State} (h : s.SupervisionInv) : s.ppsEdge.SupervisionInv := by
  unfold State.ppsEdge
  split
  · exact h
  next a _ =>
    have noted : (s.notePps a.1).SupervisionInv := h.of_blocks rfl rfl
    dsimp only
    split
    · split
      · exact noted.applyUnset a.1
      · exact noted.applyError a.1 _
    · exact noted

/-! ### COMMIT SWITCH NOW and the resets -/

/-- COMMIT SWITCH NOW activates a bank that has passed validation (R125, R129). -/
theorem SupervisorInv.commitNow {s : State} (h : SupervisorInv s) (p : PortId) : SupervisorInv (s.commitNow p).1 := by
  have claimed : ∀ c, SupervisorInv (s.setClaim c) := fun c => h
  unfold State.commitNow
  split
  · exact h
  split
  · exact claimed _
  split
  · exact claimed _
  next passes => exact ((claimed none).activate passes none none).of_blocks (by simp) (by simp)

/-- The supervisor after the reset line is set for the active bank that the store keeps (R113). -/
theorem SupervisorInv.of_resetLine {t : State} {ps : ProfileStore} (store : t.store = ps.resetLine)
    (supervisor : t.supervisor = Supervisor.resetLine ps)
    (validated : ∀ a, ps.active = some a → (ps.bank a).failing = none) : SupervisorInv t := by
  obtain ⟨worst, -, bank, -, wait, streams⟩ := Supervisor.resetLine_spec ps
  have roles : ∀ i, t.store.activeEnabled i = ps.activeEnabled i := fun i => by rw [store]; rfl
  refine ⟨fun i => ?_, by rw [supervisor, bank, store]; rfl, fun a active => ?_, by rw [supervisor, worst]; simp,
    by rw [supervisor, worst]; exact .nil⟩
  · obtain ⟨on, off⟩ := streams i
    rw [roles, supervisor]
    cases enabled : ps.activeEnabled i with
    | false =>
      have off := off fun a active => by simpa [ProfileStore.activeEnabled, ProfileStore.activeBank, active] using enabled
      rw [off]
      exact ⟨.unconfigured, iff_of_true rfl rfl⟩
    | true =>
      cases active : ps.active with
      | none => simp [ProfileStore.activeEnabled, ProfileStore.activeBank, active] at enabled
      | some a =>
        have on := on a active (by simpa [ProfileStore.activeEnabled, ProfileStore.activeBank, active] using enabled)
        rw [on]
        exact ⟨StreamRecord.setAwaiting_inv _ _ rfl rfl, by simp [StreamRecord.setAwaiting]⟩
  · have active : ps.active = some a := by rw [store] at active; exact active
    rw [store, supervisor, wait a active]
    exact Bank.initialFastWait_fits (validated a active)

theorem SupervisorInv.reset : SupervisorInv State.reset := by
  obtain ⟨-, -, -, inv, -⟩ := resetMeetsInvariants
  exact inv

/-! ### Every command -/

/-- A command whose effect keeps the laws keeps them, in a reset or out of it. -/
theorem State.SupervisionInv.after_command {s t : State} {f : State → State} (h : s.SupervisionInv)
    (ht : Host.Outcome.next (s.whileOperating f) = (.next t : Host.Outcome State Fault Refusal))
    (kept : SupervisorInv (f s)) : SupervisorInv t :=
  Host.Outcome.next.inj ht ▸ State.whileOperating_preserves h.supervisor kept

/-- A command whose effect keeps the frame keeps the laws. -/
theorem State.SupervisionInv.after_keeping {s t : State} {f : State → State} (h : s.SupervisionInv)
    (ht : Host.Outcome.next (s.whileOperating f) = (.next t : Host.Outcome State Fault Refusal))
    (kept : KeepsSupervision s (f s)) : SupervisorInv t := h.after_command ht (kept.supervisorInv h.apart h.supervisor)

/-- A request whose owner keeps the frame keeps the laws. -/
theorem State.SupervisionInv.after_request {s t : State} {c : Instr} {p : PortId} {tag : Byte}
    {owner : State → State × Reply} (h : s.SupervisionInv) (ht : serveStep c p tag owner s = .next t)
    (kept : ∀ u, KeepsSupervision u (owner u).1) : SupervisorInv t :=
  h.after_keeping ht (State.serve_preserves (P := KeepsSupervision s) (fun _ _ _ hu => hu.and_same rfl rfl)
    (fun u hu => hu.trans (kept u)) (.refl s) c tag)

/-- Every command keeps the supervisor's laws. -/
theorem exec_supervisorInv {c : Instr} {s t : State} (h : s.SupervisionInv) (ht : exec c s = .next t) :
    SupervisorInv t := by
  cases c with
  | powerOn | supplyBelowLimit => exact Host.Outcome.next.inj ht ▸ SupervisorInv.reset.of_blocks rfl rfl
  | resetLine => exact Host.Outcome.next.inj ht ▸ .of_resetLine (ps := s.store) rfl rfl h.validated
  | powerOnExit | resetLineRelease =>
    obtain rfl := Host.Outcome.next.inj ht
    split <;> exact h.supervisor.of_blocks rfl rfl
  | timeMessage line => exact h.after_keeping ht (.of_blocks (by simp) (by simp))
  | ppsEdge => exact h.after_command ht h.ppsEdge.supervisor
  | ppsLossTimerExpiry => exact h.after_keeping ht (.of_blocks (by simp) (by simp))
  | holdoverLimitExpiry => exact h.after_keeping ht (.of_blocks (by simp) (by simp))
  | slewEnd => exact h.after_keeping ht (.of_blocks (by simp) (by simp))
  | pauseEnd => exact h.after_keeping ht (.pauseEnd s)
  | secondBoundary => exact h.after_command ht h.takeDueSecond.supervisor
  | epochBoundary =>
    refine h.after_keeping ht ?_
    split
    · exact .refl s
    · exact .epochBoundary s
  | fastDeadlineExpiry e => exact h.after_keeping ht (.fastDeadline s e)
  | fullDeadlineExpiry e => exact h.after_keeping ht (.fullDeadline s e)
  | drainingEnd => exact h.after_keeping ht (.endDraining s)
  | laneFrameArrival l line => exact h.after_keeping ht (.of_blocks (by simp) (by simp))
  | laneSilenceTimerExpiry l => exact h.after_keeping ht (.of_blocks (by simp) (by simp))
  | commandFrameSent l => exact h.after_keeping ht (.of_blocks rfl rfl)
  | arbiterTake => exact h.after_keeping ht (.arbiterTake s)
  | tableTakeRecord => exact h.after_keeping ht (.tableTake s)
  | commandTimeout i =>
    refine h.after_keeping ht ?_
    split
    · split
      · exact .of_blocks (by simp) (by simp)
      · exact .refl s
    · exact .refl s
  | streamSilenceTimerExpiry i =>
    refine h.after_keeping ht ?_
    split
    next due => exact .updStream s i (StreamRecord.expireSilence_keepsInv (s.running_of_due due))
    next => exact .refl s
  | quietTimerExpiry i =>
    refine h.after_keeping ht ?_
    split
    next due => exact .updStream s i (StreamRecord.forgetFaults_keepsInv (s.running_of_due due))
    next => exact .refl s
  | claimTimerExpiry => exact h.after_keeping ht (.claimExpiry s)
  | requestFrameArrival p line | responseSent p => exact h.after_keeping ht (.of_blocks rfl rfl)
  | status p tag | readWorstLatency p tag | readLanes p tag => exact h.after_request ht .refl
  | readConditions p tag | readRosterState p tag => exact h.after_request ht fun u => .of_blocks rfl rfl
  | setMask p tag count kinds =>
    exact h.after_request ht fun u => orMalformed_preserves (.refl u) (.setMask u p count kinds)
  | subscribe p tag kinds start count indices =>
    exact h.after_request ht fun u => orMalformed_preserves (.refl u) (.subscribe u p kinds start count indices)
  | readSnapshotNext p tag kind unused => exact h.after_request ht fun u => .readSnapshotNext u p kind
  | readSnapshotSequence p tag kind target seq =>
    exact h.after_request ht fun u => .readSnapshotSequence u p kind target seq.toNat
  | readStreamDetail p tag index => exact h.after_request ht fun u => .readStreamDetail u index
  | profileCursor p tag selector address mode =>
    exact h.after_request ht fun u => .profileCursor u p selector address mode
  | profileGet p tag count => exact h.after_request ht fun u => .profileGet u p count
  | profilePut p tag values =>
    exact h.after_request ht fun u => orMalformed_preserves (.refl u) (.profilePut u p values)
  | beginEdit p tag => exact h.after_request ht fun u => .beginEdit u p
  | abandonEdit p tag => exact h.after_request ht fun u => .abandonEdit u p
  | commitSwitchAtSecond p tag mode second => exact h.after_request ht fun u => .commitAtSecond u p mode second.toNat
  | commitSwitchNow p tag ignored =>
    exact h.after_command ht (State.serve_preserves (fun _ _ _ hu => hu.of_blocks rfl rfl)
      (fun u hu => hu.commitNow p) h.supervisor _ tag)
  | cancelSwitch p tag => exact h.after_request ht .cancelSwitch
  | streamCommand p tag index action => exact h.after_request ht fun u => .streamCommand u p index action
  | releaseStream p tag index => exact h.after_request ht fun u => .releaseStream u index
  | acceptReference p tag => exact h.after_request ht .acceptReference
  | clearAlignment p tag => exact h.after_request ht .clearAlignment
  | portReset p tag => exact h.after_request ht fun u => .portReset u p

/-- The idle part leaves the supervisor and the store alone. -/
theorem SupervisorInv.idle {s : State} (h : SupervisorInv s) : SupervisorInv s.idle := by
  unfold State.idle
  split
  · exact State.whileOperating_preserves h (h.of_blocks rfl rfl)
  · exact h.of_blocks rfl rfl

/-- Settles O56: each command, and the idle step, keeps the supervisor's laws under those of the store. -/
theorem supervisorInvariant : Obligations.SupervisorInvariant := by
  unfold Obligations.SupervisorInvariant
  intro s t store inv ht
  unfold step at ht
  split at ht
  next => exact Host.Outcome.next.inj ht ▸ inv.idle
  next c rest pending =>
    exact exec_supervisorInv (s := { s with pending := rest }) ⟨store, inv.of_blocks rfl rfl⟩ ht

end Sys2Proof.Machine
end

section
/-! PROOFS. The profile store's invariant (O54): what leaves the laws of the store and the active bank's contents standing,
the second boundary and COMMIT SWITCH NOW that activate a bank, and every command (R114, R115, R120, R122, R128, R132). -/

namespace Sys2Proof.Machine

/-! ### What keeps the store -/

/-- From `ps` to `ps'` the laws of the store are kept and no item of either bank changes. -/
structure KeepsBanks (ps ps' : ProfileStore) : Prop where
  laws : StoreInv ps → StoreInv ps'
  banks : ps'.banks = ps.banks

theorem KeepsBanks.of_eq {ps ps' : ProfileStore} (same : ps' = ps) : KeepsBanks ps ps' := same ▸ ⟨id, rfl⟩

theorem KeepsBanks.trans {ps ps' ps'' : ProfileStore} (h : KeepsBanks ps ps') (h' : KeepsBanks ps' ps'') :
    KeepsBanks ps ps'' := ⟨h'.laws ∘ h.laws, h'.banks.trans h.banks⟩

/-- From `ps` to `ps'` the laws of the store are kept and no item of the active bank changes. -/
structure KeepsActiveBank (ps ps' : ProfileStore) : Prop where
  laws : StoreInv ps → StoreInv ps'
  bank : ∀ a, ps.active = some a → ps.standby ≠ a → ps'.bank a = ps.bank a

theorem KeepsBanks.activeBank {ps ps' : ProfileStore} (h : KeepsBanks ps ps') : KeepsActiveBank ps ps' :=
  ⟨h.laws, fun _ _ _ => by rw [ProfileStore.bank, h.banks, ProfileStore.bank]⟩

/-! ### The claim -/

/-- The claim is released, or lapses: no law asks for a claim (R122 to R124, R128, R132). -/
theorem KeepsBanks.dropClaim (ps : ProfileStore) : KeepsBanks ps { ps with claim := none } := by
  refine ⟨fun ⟨roles, switch, draining⟩ => ⟨roles, fun pending => ?_, fun drains => ?_⟩, rfl⟩
  · obtain ⟨active, -, drained, passes⟩ := switch pending
    exact ⟨active, rfl, drained, passes⟩
  · exact ⟨(draining drains).1, rfl⟩

/-- A claim is taken, or its timer restarted, with no switch pending and none draining (R122). -/
theorem KeepsBanks.takeClaim {ps : ProfileStore}
    (free : StoreInv ps → ps.pendingSwitch = none ∧ ps.draining = none) (c : Claim) :
    KeepsBanks ps { ps with claim := some c } := by
  refine ⟨fun inv => ?_, rfl⟩
  obtain ⟨pending, draining⟩ := free inv
  exact ⟨inv.1, fun h => by simp [pending] at h, fun h => by simp [draining] at h⟩

/-- While a port holds the claim no switch is pending and none draining (R122, R128, R132). -/
theorem StoreInv.free_of_claim {ps : ProfileStore} (inv : StoreInv ps) {c : Claim} (claim : ps.claim = some c) :
    ps.pendingSwitch = none ∧ ps.draining = none := by
  obtain ⟨-, switch, draining⟩ := inv
  constructor
  · by_contra pending
    obtain ⟨-, none, -⟩ := switch (Option.isSome_iff_ne_none.mpr pending)
    cases claim.symm.trans none
  · by_contra drains
    obtain ⟨-, none⟩ := draining (Option.isSome_iff_ne_none.mpr drains)
    cases claim.symm.trans none

/-- The holder's claim timer restarted (R123). -/
theorem KeepsBanks.startClaim {s : State} {p : PortId} (held : s.holds p = true) :
    KeepsBanks s.store (s.startClaim p).store := by
  obtain ⟨c, claim, -⟩ := (s.holds_iff p).mp held
  rw [State.startClaim_store]
  exact .takeClaim (fun inv => inv.free_of_claim claim) _

theorem KeepsBanks.renewClaim (s : State) (p : PortId) : KeepsBanks s.store (s.renewClaim p).store := by
  unfold State.renewClaim
  split
  next held => exact .startClaim held
  next => exact .of_eq rfl

theorem KeepsBanks.claimExpiry (s : State) : KeepsBanks s.store s.claimExpiry.store := by
  unfold State.claimExpiry
  split
  · split
    · rw [State.latchIn_store]
      exact .dropClaim _
    · exact .of_eq rfl
  · exact .of_eq rfl

theorem KeepsBanks.beginEdit (s : State) (p : PortId) : KeepsBanks s.store (s.beginEdit p).1.store := by
  unfold State.beginEdit
  split
  next c claim =>
    split
    next held => exact .startClaim ((s.holds_iff p).mpr ⟨c, claim, held⟩)
    next => exact .of_eq rfl
  next =>
    split
    next => exact .of_eq rfl
    next free =>
      simp only [Bool.or_eq_true, not_or, Bool.not_eq_true, Option.isSome_eq_false_iff, Option.isNone_iff_eq_none] at free
      exact .takeClaim (fun _ => free) _

theorem KeepsBanks.abandonEdit (s : State) (p : PortId) : KeepsBanks s.store (s.abandonEdit p).1.store := by
  unfold State.abandonEdit
  split
  · exact .dropClaim _
  · exact .of_eq rfl

theorem KeepsBanks.portReset (s : State) (p : PortId) : KeepsBanks s.store (s.portReset p).1.store := by
  unfold State.portReset
  dsimp only
  split
  · exact .dropClaim _
  · exact .of_eq rfl

/-! ### The cursor -/

theorem KeepsBanks.profileCursor (s : State) (p : PortId) (selector : Byte) (address : BitVec 16) (mode : Byte) :
    KeepsBanks s.store (s.profileCursor p selector address mode).1.store := by
  unfold State.profileCursor
  split <;> exact .renewClaim s p

theorem KeepsBanks.profileGet (s : State) (p : PortId) (count : Byte) :
    KeepsBanks s.store (s.profileGet p count).1.store := by
  unfold State.profileGet
  dsimp only
  split
  · exact .renewClaim s p
  split
  · exact .renewClaim s p
  split <;> exact .renewClaim s p

/-- The standby bank is replaced while no switch waits for it (R114, R120). -/
theorem KeepsActiveBank.setStandby {s : State} (idle : StoreInv s.store → s.store.pendingSwitch = none) (b : Bank) :
    KeepsActiveBank s.store (s.setStandby b).store := by
  have other : ∀ a, s.store.standby ≠ a → (s.setStandby b).store.bank a = s.store.bank a := fun a apart =>
    (s.setStandby_bank b a).trans (if_neg apart.symm)
  refine ⟨fun inv => ⟨fun a active => ?_, fun pending => ?_, inv.2.2⟩, fun a _ apart => other a apart⟩
  · obtain ⟨apart, passes⟩ := inv.1 a active
    exact ⟨apart, (congrArg Bank.failing (other a apart)).trans passes⟩
  · rw [State.setStandby_store, idle inv] at pending
    cases pending

theorem KeepsActiveBank.profilePut (s : State) (p : PortId) (values : List Word) :
    KeepsActiveBank s.store (s.profilePut p values).1.store := by
  unfold State.profilePut
  split
  next held =>
    obtain ⟨c, claim, -⟩ := (s.holds_iff p).mp held
    have started := KeepsBanks.startClaim held
    dsimp only
    split
    · exact started.activeBank
    next b _ =>
      have stored : KeepsActiveBank (s.startClaim p).store ((s.startClaim p).setStandby b).store :=
        .setStandby (fun inv => (inv.free_of_claim rfl).1) b
      exact ⟨stored.laws ∘ started.laws, stored.bank⟩
  next => exact (KeepsBanks.of_eq rfl).activeBank

/-! ### Switches -/

theorem KeepsBanks.endDraining (s : State) : KeepsBanks s.store s.endDraining.store := by
  unfold State.endDraining
  split
  next d drains =>
    split
    · refine ⟨fun ⟨roles, switch, _⟩ => ⟨roles, fun pending => ?_, fun h => by cases h⟩, rfl⟩
      obtain ⟨active, claim, -, passes⟩ := switch pending
      exact ⟨active, claim, rfl, passes⟩
    · exact .of_eq rfl
  next => exact .of_eq rfl

theorem KeepsBanks.cancelSwitch (s : State) : KeepsBanks s.store s.cancelSwitch.1.store := by
  unfold State.cancelSwitch
  split
  · exact ⟨fun ⟨roles, _, draining⟩ => ⟨roles, fun h => (by cases h), draining⟩, rfl⟩
  · exact .of_eq rfl

/-- COMMIT SWITCH AT_SECOND leaves a switch pending behind every check alone (R125, R128). -/
theorem KeepsBanks.commitAtSecond (s : State) (p : PortId) (mode : Byte) (S : Nat) :
    KeepsBanks s.store (s.commitAtSecond p mode S).1.store := by
  unfold State.commitAtSecond
  split
  · exact .of_eq rfl
  next unheld =>
    have held : s.holds p = true := by simpa using unheld
    have refused : ∀ r, KeepsBanks s.store (s.refuseCommit p r).1.store := fun _ => .startClaim held
    split
    · exact refused _
    split
    · exact refused _
    next provisioned =>
      split
      · exact refused _
      split
      · exact refused _
      split
      · exact refused _
      next passes =>
        refine ⟨fun inv => ⟨inv.1, fun _ => ?_, fun drains => ?_⟩, rfl⟩
        all_goals
          obtain ⟨c, claim, -⟩ := (s.holds_iff p).mp held
          obtain ⟨-, draining⟩ := inv.free_of_claim claim
        · exact ⟨Option.isSome_iff_ne_none.mpr provisioned, rfl, draining, passes⟩
        · simp [draining] at drains

/-- COMMIT SWITCH NOW activates a standby bank that has passed validation, without draining (R129). -/
theorem KeepsBanks.commitNow (s : State) (p : PortId) : KeepsBanks s.store (s.commitNow p).1.store := by
  unfold State.commitNow
  split
  · exact .of_eq rfl
  next unheld =>
    have held : s.holds p = true := by simpa using unheld
    split
    · exact .startClaim held
    split
    · exact .startClaim held
    next passes =>
      rw [State.enterAligningNow_store, State.activate_store]
      refine ⟨fun _ => ⟨fun a active => ?_, fun h => (by cases h), fun h => (by cases h)⟩, rfl⟩
      obtain rfl := Option.some.inj active
      exact ⟨otherBank_ne _, passes⟩

/-- A second boundary activates a pending switch whose second has come, and else leaves the store (R131). -/
theorem KeepsBanks.takeSecond (s : State) (x : Nat) : KeepsBanks s.store (s.takeSecond x).store := by
  by_cases early : ∀ S, s.store.pendingSwitch = some S → x < S
  · exact .of_eq (State.takeSecond_early early).2
  · simp only [not_forall, Nat.not_lt] at early
    obtain ⟨S, pending, come⟩ := early
    rw [State.takeSecond_switch pending come]
    refine ⟨fun inv => ?_, by simp⟩
    have second : StoreInv (s.supervisorSecond x).store := by rwa [State.supervisorSecond_store]
    have switch : (s.supervisorSecond x).store.pendingSwitch.isSome = true := by
      rw [State.supervisorSecond_store, pending]
      rfl
    exact second.activate switch (some S) (s.drainingAt S)

theorem KeepsBanks.takeDueSecond (s : State) : KeepsBanks s.store s.takeDueSecond.store := by
  unfold State.takeDueSecond
  split
  · exact .takeSecond s _
  · exact .of_eq rfl

/-! ### The PPS -/

/-- The second and epoch boundaries of a local time that a PPS has set, behind what keeps the banks (R17, R18). -/
theorem KeepsBanks.then_takeSecond {ps : ProfileStore} {u : State} (h : KeepsBanks ps u.store) (x : Nat) :
    KeepsBanks ps (u.takeSecond x).epochBoundary.store := by
  rw [State.epochBoundary_store]
  exact h.trans (.takeSecond u x)

theorem KeepsBanks.stepTo (s : State) (x : Nat) : KeepsBanks s.store (s.stepTo x).store := by
  refine KeepsBanks.then_takeSecond ?_ x
  simpa using KeepsBanks.takeDueSecond s

theorem KeepsBanks.correct (s : State) (x : Nat) (e : Int) (w : Bool) :
    KeepsBanks s.store (s.correct x e w).store := by
  unfold State.correct
  split
  · exact .of_eq rfl
  split
  · exact .of_eq rfl
  split
  · exact .stepTo s x
  · exact .of_eq (by simp)

theorem KeepsBanks.applyUnset (s : State) (x : Nat) : KeepsBanks s.store (s.applyUnset x).store := by
  refine KeepsBanks.then_takeSecond (.of_eq ?_) x
  split <;> simp

theorem KeepsBanks.applyError (s : State) (x : Nat) (e : Int) : KeepsBanks s.store (s.applyError x e).store := by
  unfold State.applyError
  split
  · exact .of_eq (by simp)
  · exact KeepsBanks.trans (.of_eq (by simp)) (.correct _ x e _)

theorem KeepsBanks.ppsEdge (s : State) : KeepsBanks s.store s.ppsEdge.store := by
  unfold State.ppsEdge
  split
  · exact .of_eq rfl
  next a _ =>
    dsimp only
    split
    · split
      · exact .applyUnset (s.notePps a.1) a.1
      · exact .applyError (s.notePps a.1) a.1 _
    · exact .of_eq rfl

/-! ### Requests that leave the store -/

section
variable (s : State)

theorem State.setMask_store (p : PortId) (count : Byte) (kinds : List Byte) :
    (s.setMask p count kinds).1.store = s.store := by
  unfold State.setMask
  split <;> rfl

theorem State.subscribe_store (p : PortId) (kinds start count : Byte) (indices : List Byte) :
    (s.subscribe p kinds start count indices).1.store = s.store := by
  unfold State.subscribe
  split <;> rfl

theorem State.readSnapshotNext_store (p : PortId) (kind : Byte) : (s.readSnapshotNext p kind).1.store = s.store := by
  unfold State.readSnapshotNext State.readNext
  dsimp only
  repeat' split
  all_goals rfl

theorem State.readSnapshotSequence_store (p : PortId) (kind target : Byte) (n : Nat) :
    (s.readSnapshotSequence p kind target n).1.store = s.store := by
  unfold State.readSnapshotSequence
  repeat' split
  all_goals rfl

theorem State.readStreamDetail_store (index : Byte) : (s.readStreamDetail index).1.store = s.store := by
  unfold State.readStreamDetail
  split <;> rfl

theorem State.streamCommand_store (p : PortId) (index action : Byte) :
    (s.streamCommand p index action).1.store = s.store := by
  unfold State.streamCommand
  repeat' split
  all_goals simp

theorem State.releaseStream_store (index : Byte) : (s.releaseStream index).1.store = s.store := by
  unfold State.releaseStream
  split
  · rfl
  split
  · exact s.updStream_store _ _
  · rfl

theorem State.acceptReference_store : s.acceptReference.1.store = s.store := by
  unfold State.acceptReference
  split <;> rfl

theorem State.clearAlignment_store : s.clearAlignment.1.store = s.store := by
  rw [State.clearAlignment, State.updPorts_store, State.supervisorClear_store, State.tableClear_store]

end

/-! ### Every command -/

/-- A command whose effect keeps the banks keeps them, in a reset or out of it. -/
theorem KeepsBanks.after_command {s t : State} {f : State → State} (kept : KeepsBanks s.store (f s).store)
    (ht : Host.Outcome.next (s.whileOperating f) = (.next t : Host.Outcome State Fault Refusal)) :
    KeepsActiveBank s.store t.store :=
  Host.Outcome.next.inj ht ▸
    (State.whileOperating_preserves (P := fun u => KeepsBanks s.store u.store) (.of_eq rfl) kept).activeBank

/-- What every answer of an owner keeps of the store, its request keeps. -/
theorem KeepsActiveBank.after_request {s t : State} {c : Instr} {p : PortId} {tag : Byte}
    {owner : State → State × Reply} (kept : ∀ u, KeepsActiveBank u.store (owner u).1.store)
    (ht : serveStep c p tag owner s = .next t) : KeepsActiveBank s.store t.store := by
  have unserved : KeepsActiveBank s.store s.store := (KeepsBanks.of_eq rfl).activeBank
  obtain rfl := Host.Outcome.next.inj ht
  unfold State.whileOperating
  split
  · dsimp only [State.serve]
    split
    · rw [State.answer_store]
      exact kept (s.updPort p (Port.takeInHand c))
    · split
      · rw [State.answer_store]
        exact kept s
      · exact unserved
    · exact unserved
  · exact unserved

theorem KeepsBanks.after_request {s t : State} {c : Instr} {p : PortId} {tag : Byte} {owner : State → State × Reply}
    (kept : ∀ u, KeepsBanks u.store (owner u).1.store) (ht : serveStep c p tag owner s = .next t) :
    KeepsActiveBank s.store t.store := KeepsActiveBank.after_request (fun u => (kept u).activeBank) ht

/-- Every command but a power-on keeps the store's laws and the active bank's contents. -/
theorem exec_keepsActiveBank {c : Instr} {s t : State} (on : c ≠ .powerOn) (supplied : c ≠ .supplyBelowLimit)
    (ht : exec c s = .next t) : KeepsActiveBank s.store t.store := by
  have same {f : State → State} (store : (f s).store = s.store)
      (ht : Host.Outcome.next (s.whileOperating f) = (.next t : Host.Outcome State Fault Refusal)) :
      KeepsActiveBank s.store t.store := (KeepsBanks.of_eq store).after_command ht
  have reads {p : PortId} {tag : Byte} {owner : State → State × Reply} (store : ∀ u, (owner u).1.store = u.store)
      (ht : serveStep c p tag owner s = .next t) : KeepsActiveBank s.store t.store :=
    KeepsBanks.after_request (fun u => .of_eq (store u)) ht
  cases c with
  | powerOn => exact absurd rfl on
  | supplyBelowLimit => exact absurd rfl supplied
  | resetLine =>
    obtain rfl := Host.Outcome.next.inj ht
    exact ⟨fun ⟨roles, _⟩ => ⟨roles, fun h => (by cases h), fun h => (by cases h)⟩, fun _ _ _ => rfl⟩
  | powerOnExit | resetLineRelease =>
    obtain rfl := Host.Outcome.next.inj ht
    refine (KeepsBanks.of_eq ?_).activeBank
    split <;> rfl
  | timeMessage line => exact same (by simp) ht
  | ppsEdge => exact (KeepsBanks.ppsEdge s).after_command ht
  | ppsLossTimerExpiry | holdoverLimitExpiry | slewEnd | pauseEnd => exact same (by simp) ht
  | secondBoundary => exact (KeepsBanks.takeDueSecond s).after_command ht
  | epochBoundary =>
    refine same ?_ ht
    split <;> simp
  | fastDeadlineExpiry e | fullDeadlineExpiry e => exact same (by simp) ht
  | drainingEnd => exact (KeepsBanks.endDraining s).after_command ht
  | laneFrameArrival l line => exact same (by simp) ht
  | laneSilenceTimerExpiry l | commandFrameSent l => exact same (by simp) ht
  | arbiterTake | tableTakeRecord => exact same (by simp) ht
  | commandTimeout i =>
    refine same ?_ ht
    repeat' split
    all_goals simp
  | streamSilenceTimerExpiry i | quietTimerExpiry i =>
    refine same ?_ ht
    split <;> simp
  | claimTimerExpiry => exact (KeepsBanks.claimExpiry s).after_command ht
  | requestFrameArrival p line | responseSent p => exact same rfl ht
  | status p tag | readConditions p tag | readRosterState p tag | readWorstLatency p tag | readLanes p tag =>
    exact reads (fun _ => rfl) ht
  | setMask p tag count kinds =>
    exact reads (fun u => orMalformed_preserves (P := fun v => v.store = u.store) rfl (u.setMask_store p count kinds)) ht
  | subscribe p tag kinds start count indices =>
    exact reads (fun u => orMalformed_preserves (P := fun v => v.store = u.store) rfl
      (u.subscribe_store p kinds start count indices)) ht
  | readSnapshotNext p tag kind unused => exact reads (fun u => u.readSnapshotNext_store p kind) ht
  | readSnapshotSequence p tag kind target seq =>
    exact reads (fun u => u.readSnapshotSequence_store p kind target seq.toNat) ht
  | readStreamDetail p tag index => exact reads (fun u => u.readStreamDetail_store index) ht
  | profileCursor p tag selector address mode =>
    exact KeepsBanks.after_request (fun u => .profileCursor u p selector address mode) ht
  | profileGet p tag count => exact KeepsBanks.after_request (fun u => .profileGet u p count) ht
  | profilePut p tag values =>
    exact KeepsActiveBank.after_request (fun u => orMalformed_preserves (P := fun v => KeepsActiveBank u.store v.store)
      (KeepsBanks.of_eq rfl).activeBank (.profilePut u p values)) ht
  | beginEdit p tag => exact KeepsBanks.after_request (fun u => .beginEdit u p) ht
  | abandonEdit p tag => exact KeepsBanks.after_request (fun u => .abandonEdit u p) ht
  | commitSwitchAtSecond p tag mode second =>
    exact KeepsBanks.after_request (fun u => .commitAtSecond u p mode second.toNat) ht
  | commitSwitchNow p tag ignored => exact KeepsBanks.after_request (fun u => .commitNow u p) ht
  | cancelSwitch p tag => exact KeepsBanks.after_request .cancelSwitch ht
  | streamCommand p tag index action => exact reads (fun u => u.streamCommand_store p index action) ht
  | releaseStream p tag index => exact reads (fun u => u.releaseStream_store index) ht
  | acceptReference p tag => exact reads State.acceptReference_store ht
  | clearAlignment p tag => exact reads State.clearAlignment_store ht
  | portReset p tag => exact KeepsBanks.after_request (fun u => .portReset u p) ht

/-- Every command keeps the store's laws. -/
theorem exec_storeInv {c : Instr} {s t : State} (inv : StoreInv s.store) (ht : exec c s = .next t) :
    StoreInv t.store := by
  obtain ⟨atReset, -⟩ := resetMeetsInvariants
  by_cases on : c = .powerOn
  · subst on
    exact Host.Outcome.next.inj ht ▸ atReset
  by_cases supplied : c = .supplyBelowLimit
  · subst supplied
    exact Host.Outcome.next.inj ht ▸ atReset
  exact (exec_keepsActiveBank on supplied ht).laws inv

/-- The idle part leaves the store alone. -/
theorem State.idle_store (s : State) : s.idle.store = s.store := by
  unfold State.idle
  split
  · exact State.whileOperating_preserves (P := fun u => u.store = s.store) rfl rfl
  · rfl

/-- Settles O54: each command, and the idle step, keeps the store's laws; a power-on alone reaches the active bank. -/
theorem storeInvariant : Obligations.StoreInvariant := by
  unfold Obligations.StoreInvariant
  intro s t inv ht
  unfold step at ht
  split at ht
  next empty =>
    obtain rfl := Host.Outcome.next.inj ht
    refine ⟨by rw [State.idle_store]; exact inv, fun a c rest _ pending => ?_⟩
    cases empty.symm.trans pending
  next c rest pending =>
    refine ⟨exec_storeInv (s := { s with pending := rest }) inv ht, fun a c' rest' active pending' on supplied => ?_⟩
    obtain ⟨rfl, -⟩ := List.cons.inj (pending.symm.trans pending')
    exact (exec_keepsActiveBank on supplied ht).bank a active (inv.1 a active).1

end Sys2Proof.Machine
end

section
/-! PROOFS. The edit claim, CANCEL SWITCH, PORT RESET, and the timers of a command and of the claim (R122 to R124, R130, R142,
R143, R156, R158). -/

namespace Sys2Proof.Machine

/-! ### The edit claim -/

theorem State.holds_eq_false (s : State) (p : PortId) :
    s.holds p = false ↔ ∀ c, s.store.claim = some c → c.holder ≠ p := by
  rw [← Bool.not_eq_true, State.holds_iff]
  exact ⟨fun no c claim held => no ⟨c, claim, held⟩, fun no ⟨c, claim, held⟩ => no c claim held⟩

/-- BEGIN EDIT at the store, by the four situations of the claim (R122). -/
theorem State.beginEdit_eq (s : State) (p : PortId) :
    (∀ c, s.store.claim = some c → c.holder ≠ p → s.beginEdit p = (s, .bare .held)) ∧
    (∀ c, s.store.claim = some c → c.holder = p → s.beginEdit p = (s.startClaim p, .bare .ok)) ∧
    (s.store.claim = none → (s.store.pendingSwitch.isSome = true ∨ s.store.draining.isSome = true) →
      s.beginEdit p = (s, .bare .state)) ∧
    (s.store.claim = none → s.store.pendingSwitch = none → s.store.draining = none →
      s.beginEdit p = (s.startClaim p, .bare .ok)) := by
  unfold State.beginEdit
  exact ⟨fun c claim other => by simp [claim, other], fun c claim held => by simp [claim, held],
    fun free busy => by simp [free, busy], fun free pending draining => by simp [free, pending, draining]⟩

/-- ABANDON EDIT at the store, from the holder and from another port (R124). -/
theorem State.abandonEdit_eq (s : State) (p : PortId) :
    (s.holds p = true → s.abandonEdit p = (s.setClaim none, .bare .ok)) ∧
    (s.holds p = false → s.abandonEdit p = (s, .bare .notHolder)) := by
  unfold State.abandonEdit
  exact ⟨fun held => if_pos held, fun no => if_neg (by simp [no])⟩

/-- Settles O46: both requests in each situation of the claim. -/
theorem editClaimTaken : Obligations.EditClaimTaken := by
  unfold Obligations.EditClaimTaken
  intro s p tag serves
  obtain ⟨held, renews, busy, takes⟩ := (s.updPort p (Port.takeInHand (.beginEdit p tag))).beginEdit_eq p
  obtain ⟨releases, notHolder⟩ := (s.updPort p (Port.takeInHand (.abandonEdit p tag))).abandonEdit_eq p
  refine ⟨fun ⟨c, claim, other⟩ => ⟨?_, ?_⟩, fun ⟨c, claim, own⟩ => ⟨?_, ?_⟩, fun free => ⟨?_, fun waits => ?_,
    fun pending draining => ?_⟩⟩
  · exact serveStep_refuses serves _ tag (fun u => u.beginEdit p) .held (held c claim other)
  · refine serveStep_refuses serves _ tag (fun u => u.abandonEdit p) .notHolder (notHolder ?_)
    refine (State.holds_eq_false _ p).mpr fun d claim' => ?_
    obtain rfl := Option.some.inj (claim.symm.trans claim')
    exact other
  · exact serveStep_answers serves _ tag (owner := fun u => u.beginEdit p) (renews c claim own) rfl
  · exact serveStep_answers serves _ tag (owner := fun u => u.abandonEdit p)
      (releases ((State.holds_iff _ p).mpr ⟨c, claim, own⟩)) rfl
  · refine serveStep_refuses serves _ tag (fun u => u.abandonEdit p) .notHolder (notHolder ?_)
    exact (State.holds_eq_false _ p).mpr fun d claim => by cases free.symm.trans claim
  · exact serveStep_refuses serves _ tag (fun u => u.beginEdit p) .state (busy free waits)
  · exact serveStep_answers serves _ tag (owner := fun u => u.beginEdit p) (takes free pending draining) rfl

/-! ### CANCEL SWITCH -/

/-- With no switch pending and none draining, every second is governed by the active bank (R115). -/
theorem ProfileStore.governingBank_active {ps : ProfileStore} (pending : ps.pendingSwitch = none)
    (draining : ps.draining = none) (x : Nat) : ps.governingBank x = ps.activeBank := by
  unfold ProfileStore.governingBank ProfileStore.activeBank
  cases active : ps.active with
  | none => rw [ps.governing_none x active]; rfl
  | some a => rw [ps.governing_active x a active pending draining]; rfl

/-- Settles O49: a pending switch is withdrawn, and a request without one refused. -/
theorem cancelWithdrawsSwitch : Obligations.CancelWithdrawsSwitch := by
  unfold Obligations.CancelWithdrawsSwitch
  intro s p tag serves
  refine ⟨fun pending => ?_, fun none => ?_⟩
  · obtain ⟨t, run, frame, answered⟩ := serveStep_answers serves (.cancelSwitch p tag) tag
      (owner := State.cancelSwitch) (if_pos pending) rfl
    refine ⟨t, run, frame, answered, fun drained x => ?_⟩
    rw [frame]
    exact ProfileStore.governingBank_active (ps := { s.store with pendingSwitch := Option.none }) rfl drained x
  · refine serveStep_refuses serves _ tag State.cancelSwitch .state (if_neg ?_)
    simp [none]

/-! ### PORT RESET -/

/-- A port that listens for nothing asserts no attention line (R180). -/
theorem attention_of_mask_zero {s : State} {p : PortId} (mask : s.ports[p].mask = 0) : attention s p = false := by
  rw [attention, mask]
  simp

theorem rosterChanged_iff (s : State) (p : PortId) :
    rosterChanged s p = true ↔ ∃ i : StreamId, s.supervisor.streams[i].health ≠ s.ports[p].watch[i] := by
  simp [rosterChanged, allStreams]

/-- PORT RESET at the store releases the claim of the holder alone (R124). -/
theorem State.portReset_eq (s : State) (p : PortId) :
    ∃ c, s.portReset p = ((s.setClaim c).updPort p (Port.portReset s.table), .bare .ok) ∧
      ((∃ d, s.store.claim = some d ∧ d.holder = p) → c = none) ∧
      ((∀ d, s.store.claim = some d → d.holder ≠ p) → c = s.store.claim) := by
  rw [← State.holds_iff, ← State.holds_eq_false]
  unfold State.portReset
  cases held : s.holds p with
  | true => exact ⟨none, rfl, fun _ => rfl, fun h => by cases h⟩
  | false => exact ⟨s.store.claim, rfl, (fun h => by cases h), fun _ => rfl⟩

/-- PORT RESET takes back that its request was taken; its response comes behind it (R149, R156, R158). -/
theorem Port.respond_portReset_takeInHand (c : Instr) (tag : Byte) (r : Reply) (tb : AlignTable) (q : Port) :
    Port.respond tag r (Port.portReset tb (Port.takeInHand c q)) = Port.respond tag r (Port.portReset tb q) := rfl

/-- Settles O53: the claim by its holder, and the port's values by PORT RESET and the response. -/
theorem portResetResetsPort : Obligations.PortResetResetsPort := by
  unfold Obligations.PortResetResetsPort
  intro s p tag serves
  obtain ⟨c, work, released, kept⟩ := (s.updPort p (Port.takeInHand (.portReset p tag))).portReset_eq p
  have run := serveStep_idle serves (.portReset p tag) tag (fun u => u.portReset p)
  rw [State.answer, work] at run
  generalize ht : State.updPort _ p (Port.respond tag (.bare .ok)) = t at run
  have store : t.store = { s.store with claim := c } := ht ▸ rfl
  have supervisor : t.supervisor = s.supervisor := ht ▸ rfl
  have port : t.ports[p] = Port.respond tag (.bare .ok) (Port.portReset s.table s.ports[p]) := by
    subst ht
    simp [Port.respond_portReset_takeInHand]
  have watch : ∀ i : StreamId, t.ports[p].watch[i] = .unconfigured := fun i => by
    rw [port]
    simp [Port.respond, Port.push, Port.portReset, Port.reset]
  refine ⟨t, run, ?_, fun held => ?_, fun other => ?_, fun q hq => ?_, ?_, watch, ?_, ?_⟩
  · rw [store]
    exact ht ▸ rfl
  · rw [store, released held]
  · rw [store]
    exact kept other
  · subst ht
    simp [hq]
  · rw [port]
    rfl
  · refine attention_of_mask_zero ?_
    rw [port]
    rfl
  · simp only [rosterChanged_iff, supervisor, watch]

/-! ### The command timeout and the claim timer -/

/-- Settles O32: each timer run out, at the port it belongs to. -/
theorem commandAndClaimTimeOut : Obligations.CommandAndClaimTimeOut := by
  unfold Obligations.CommandAndClaimTimeOut
  intro s on
  refine ⟨fun i c pending past => ?_, fun c claim past => ?_⟩
  · have due := s.timerDue_of_past (timer := some c.timeout) rfl past
    have run : exec (.commandTimeout i) s = .next (s.timeOutCommand i c) := by
      refine congrArg _ ((State.whileOperating_on on _).trans ?_)
      rw [pending]
      exact if_pos due
    refine ⟨_, run, ?_, ?_, fun j hj => ?_, fun q hq => ?_, ?_⟩
    · ext1 <;> simp [State.timeOutCommand]
    · simp [State.timeOutCommand]
    · simp [State.timeOutCommand, hj]
    · simp [State.timeOutCommand, hq]
    · simpa [State.timeOutCommand] using Raised.latch .commandDone _
  · have due := s.timerDue_of_past (timer := some c.expires) rfl past
    have run : exec .claimTimerExpiry s = .next ((s.setClaim none).latchIn c.holder .claimLost) := by
      refine congrArg _ ((State.whileOperating_on on _).trans ?_)
      unfold State.claimExpiry
      rw [claim]
      exact if_pos due
    obtain ⟨raised, others⟩ := (s.setClaim none).latchIn_raises c.holder .claimLost
    exact ⟨_, run, rfl, others, raised⟩

end Sys2Proof.Machine
end

section
/-! PROOFS. PROFILE CURSOR, PROFILE GET and PROFILE PUT: the claim's timer, the cursor and the run of items (R114, R116 to
R121, R123). -/

namespace Sys2Proof.Machine

/-! ### Requests that set the cursor -/

/-- A request whose owner sets the cursor of its port: what it leaves of the state, with the cursor in the answered port
(R118 to R121). -/
theorem serveStep_setsCursor {s : State} {p : PortId} (h : Serves s p) (c : Instr) (tag : Byte)
    {owner : State → State × Reply} {u : State} {k : ProfileCursor} {r : Reply}
    (ho : owner (s.updPort p (Port.takeInHand c)) = (u.setCursor p k, r))
    (ports : u.ports = update s.ports p (Port.takeInHand c)) :
    ∃ t, serveStep c p tag owner s = .next t ∧ t = { u with ports := t.ports } ∧
      AnsweredAt p tag r.code r.result { s.ports[p] with cursor := k } s t := by
  refine ⟨_, serveStep_idle h c tag owner, ?_, State.answer_answered ho ?_ fun i hi => ?_⟩
  · rw [State.answer, ho]
    rfl
  · simp [ports, Port.takeInHand]
  · simp [ports, hi]

/-! ### The claim's timer -/

/-- The claim with its timer started again where port `p` is the holder (R123). -/
def renewed (p : PortId) (s : State) : Option Claim :=
  s.store.claim.map fun c => if c.holder = p then { c with expires := s.timebase.elapsed + 1000000000 } else c

theorem State.renewClaim_eq (s : State) (p : PortId) : s.renewClaim p = s.setClaim (renewed p s) := by
  unfold State.renewClaim
  split
  next held =>
    obtain ⟨c, claim, rfl⟩ := (s.holds_iff p).mp held
    have restarted : renewed c.holder s = some ⟨c.holder, s.after claimTime⟩ := by
      rw [renewed, claim]
      exact congrArg some (if_pos rfl)
    rw [restarted]
    rfl
  next unheld =>
    have kept : renewed p s = s.store.claim := by
      unfold renewed
      cases claim : s.store.claim with
      | none => rfl
      | some c => exact congrArg some (if_neg fun own => unheld ((s.holds_iff p).mpr ⟨c, claim, own⟩))
    rw [kept]
    rfl

/-! ### PROFILE CURSOR -/

/-- Selector bytes and mode bytes past the last code name nothing (R190). -/
theorem decodeSelector_none {b : Byte} (past : 1 < b.toNat) : decodeSelector b = none := by
  unfold decodeSelector
  rw [if_neg (by rintro rfl; simp at past), if_neg (by rintro rfl; simp at past)]

theorem decodeAdvance_none {b : Byte} (past : 2 < b.toNat) : decodeAdvance b = none := by
  unfold decodeAdvance
  rw [if_neg (by rintro rfl; simp at past), if_neg (by rintro rfl; simp at past), if_neg (by rintro rfl; simp at past)]

/-- A selector byte in range names its selector (R118, R190). -/
theorem decodeSelector_some {b : Byte} (named : b.toNat ≤ 1) :
    ∃ sel, decodeSelector b = some sel ∧ (sel = .active ↔ b = 0) := by
  unfold decodeSelector
  by_cases zero : b = 0
  · exact ⟨.active, by simp [zero]⟩
  · have one : b = 1 := by bv_omega
    exact ⟨.standby, by simp [one]⟩

/-- A mode byte in range names its advance mode (R118, R190). -/
theorem decodeAdvance_some {b : Byte} (named : b.toNat ≤ 2) :
    ∃ adv, decodeAdvance b = some adv ∧ (adv = .none ↔ b = 0) ∧ (adv = .afterEach ↔ b = 1) := by
  unfold decodeAdvance
  by_cases zero : b = 0
  · exact ⟨.none, by simp [zero]⟩
  by_cases one : b = 1
  · exact ⟨.afterEach, by simp [one]⟩
  · have two : b = 2 := by bv_omega
    exact ⟨.afterPut, by simp [two]⟩

/-- PROFILE CURSOR at the port and the store (R118, R123). -/
theorem State.profileCursor_eq (s : State) (p : PortId) (selector : Byte) (address : BitVec 16) (mode : Byte) :
    (∀ sel adv, decodeSelector selector = some sel → decodeAdvance mode = some adv →
      s.profileCursor p selector address mode =
        ((s.renewClaim p).setCursor p ⟨sel, address.toNat, adv⟩, .ok (.cursor ⟨sel, address.toNat, adv⟩))) ∧
    ((decodeSelector selector = none ∨ decodeAdvance mode = none) →
      s.profileCursor p selector address mode = (s.renewClaim p, .bare .invalid)) := by
  unfold State.profileCursor
  refine ⟨fun sel adv hs ha => by rw [hs, ha], ?_⟩
  rintro (hs | ha)
  · rw [hs]
  · rw [ha]
    cases decodeSelector selector <;> rfl

theorem profileCursor_answers {s : State} {p : PortId} {tag selector mode : Byte} {address : BitVec 16}
    (serves : Serves s p) (hs : selector.toNat ≤ 1) (hm : mode.toNat ≤ 2) :
    ∃ t c, exec (.profileCursor p tag selector address mode) s = .next t ∧
      t = { s with ports := t.ports, store := { s.store with claim := renewed p s } } ∧
      AnsweredAt p tag .ok (.cursor c) { s.ports[p] with cursor := c } s t ∧ c.address = address.toNat ∧
      (c.selector = .active ↔ selector = 0) ∧ (c.mode = .none ↔ mode = 0) ∧ (c.mode = .afterEach ↔ mode = 1) := by
  obtain ⟨sel, decoded, active⟩ := decodeSelector_some hs
  obtain ⟨adv, decoded', never, each⟩ := decodeAdvance_some hm
  have work := (State.profileCursor_eq (s.updPort p (Port.takeInHand (.profileCursor p tag selector address mode))) p
    selector address mode).1 sel adv decoded decoded'
  rw [State.renewClaim_eq] at work
  obtain ⟨t, run, frame, answered⟩ := serveStep_setsCursor serves _ tag
    (owner := fun u => u.profileCursor p selector address mode) work rfl
  exact ⟨t, _, run, frame, answered, rfl, active, never, each⟩

theorem profileCursor_refused {s : State} {p : PortId} {tag selector mode : Byte} {address : BitVec 16}
    (serves : Serves s p) (past : 1 < selector.toNat ∨ 2 < mode.toNat) :
    ∃ t, exec (.profileCursor p tag selector address mode) s = .next t ∧
      t = { s with ports := t.ports, store := { s.store with claim := renewed p s } } ∧
      AnsweredAt p tag .invalid .empty s.ports[p] s t := by
  have work := (State.profileCursor_eq (s.updPort p (Port.takeInHand (.profileCursor p tag selector address mode))) p
    selector address mode).2 (past.imp decodeSelector_none decodeAdvance_none)
  rw [State.renewClaim_eq] at work
  exact serveStep_answers serves _ tag (owner := fun u => u.profileCursor p selector address mode) work rfl

/-! ### Advances -/

/-- A cursor keeps its selector and mode over a run, and its address where the run does not advance it (R121). -/
theorem ProfileCursor.afterRun_spec (c : ProfileCursor) (n : Nat) (advances : Bool) :
    (c.afterRun n advances).selector = c.selector ∧ (c.afterRun n advances).mode = c.mode ∧
    (advances = false → (c.afterRun n advances).address = c.address) ∧
    (advances = true → LandsOn (c.address + n - 1) (c.afterRun n advances).address) := by
  cases advances with
  | false => exact ⟨rfl, rfl, fun _ => rfl, fun h => by cases h⟩
  | true => exact ⟨rfl, rfl, (fun h => by cases h), fun _ => addressAfter_lands _⟩

/-! ### PROFILE GET -/

/-- The bank that a selector reads (R119). -/
theorem ProfileStore.selected_eq {ps : ProfileStore} {sel : Selector} {b : Bank}
    (active : sel = .active → ∃ a, ps.active = some a ∧ b = ps.bank a)
    (standby : sel = .standby → b = ps.bank ps.standby) : ps.selected sel = some b := by
  cases sel with
  | active =>
    obtain ⟨a, provisioned, rfl⟩ := active rfl
    simp [ProfileStore.selected, ProfileStore.activeBank, provisioned]
  | standby => rw [standby rfl, ProfileStore.selected]

/-- PROFILE GET at the store, by its checks in their order (R119, R121, R123). -/
theorem State.profileGet_eq (s : State) (p : PortId) (count : Byte) {k : ProfileCursor} (cursor : s.ports[p].cursor = k) :
    ((count.toNat < 1 ∨ 64 < count.toNat) → s.profileGet p count = (s.renewClaim p, .bare .invalid)) ∧
    (1 ≤ count.toNat → count.toNat ≤ 64 →
      (s.store.selected k.selector = none → s.profileGet p count = (s.renewClaim p, .bare .state)) ∧
      ∀ b, s.store.selected k.selector = some b →
        (b.readRun k.address count.toNat = none → s.profileGet p count = (s.renewClaim p, .bare .invalid)) ∧
        ∀ vs, b.readRun k.address count.toNat = some vs → s.profileGet p count =
          ((s.renewClaim p).setCursor p (k.afterRun count.toNat (k.mode == .afterEach)),
            .ok (.items vs (k.afterRun count.toNat (k.mode == .afterEach))))) := by
  unfold State.profileGet
  rw [cursor]
  refine ⟨fun out => if_pos out, fun low high => ?_⟩
  have fits : ¬(count.toNat < 1 ∨ profileRunLimit < count.toNat) := by
    unfold profileRunLimit
    omega
  simp only [if_neg fits]
  exact ⟨fun none => by rw [none], fun b selected => ⟨fun none => by rw [selected]; simp only [none],
    fun vs read => by rw [selected]; simp only [read]⟩⟩

/-- A request in hand leaves the cursor of its port. -/
theorem State.cursor_takeInHand (s : State) (p : PortId) (c : Instr) :
    (s.updPort p (Port.takeInHand c)).ports[p].cursor = s.ports[p].cursor := by
  simp [Port.takeInHand]

theorem profileGet_refused {s : State} {p : PortId} {tag count : Byte} {code : Code} (serves : Serves s p)
    (work : (s.updPort p (Port.takeInHand (.profileGet p tag count))).profileGet p count =
      ((s.updPort p (Port.takeInHand (.profileGet p tag count))).renewClaim p, .bare code)) :
    ∃ t, exec (.profileGet p tag count) s = .next t ∧
      t = { s with ports := t.ports, store := { s.store with claim := renewed p s } } ∧
      AnsweredAt p tag code .empty s.ports[p] s t := by
  rw [State.renewClaim_eq] at work
  exact serveStep_answers serves _ tag (owner := fun u => u.profileGet p count) work rfl

theorem profileGet_answers {s : State} {p : PortId} {tag count : Byte} {b : Bank} (serves : Serves s p)
    (low : 1 ≤ count.toNat) (high : count.toNat ≤ 64) (selected : s.store.selected s.ports[p].cursor.selector = some b)
    (defined : ∀ k, k < count.toNat → (itemPlace (s.ports[p].cursor.address + k)).isSome = true) :
    ∃ t values c, exec (.profileGet p tag count) s = .next t ∧
      t = { s with ports := t.ports, store := { s.store with claim := renewed p s } } ∧
      AnsweredAt p tag .ok (.items values c) { s.ports[p] with cursor := c } s t ∧
      values.length = count.toNat ∧
      (∀ k w, k < count.toNat → itemPlace (s.ports[p].cursor.address + k) = some w → values[k]? = some (b.read w)) ∧
      c.selector = s.ports[p].cursor.selector ∧ c.mode = s.ports[p].cursor.mode ∧
      (s.ports[p].cursor.mode ≠ .afterEach → c.address = s.ports[p].cursor.address) ∧
      (s.ports[p].cursor.mode = .afterEach → LandsOn (s.ports[p].cursor.address + count.toNat - 1) c.address) := by
  obtain ⟨-, inRange⟩ := State.profileGet_eq _ p count (s.cursor_takeInHand p (.profileGet p tag count))
  obtain ⟨values, read, length, items⟩ := b.readRun_spec count.toNat _ defined
  have work := ((inRange low high).2 b selected).2 values read
  rw [State.renewClaim_eq] at work
  generalize hk : s.ports[p].cursor.afterRun count.toNat (s.ports[p].cursor.mode == .afterEach) = k at work
  obtain ⟨selector, mode, stays, lands⟩ :=
    s.ports[p].cursor.afterRun_spec count.toNat (s.ports[p].cursor.mode == .afterEach)
  rw [hk] at selector mode stays lands
  obtain ⟨t, run, frame, answered⟩ := serveStep_setsCursor serves _ tag
    (owner := fun u => u.profileGet p count) work rfl
  exact ⟨t, values, k, run, frame, answered, length, items, selector, mode,
    fun other => stays (beq_false_of_ne other), fun each => lands (beq_iff_eq.mpr each)⟩

/-- Settles O44: PROFILE CURSOR by its two answers, PROFILE GET by its checks in their order. -/
theorem profileCursorAndGet : Obligations.ProfileCursorAndGet := by
  unfold Obligations.ProfileCursorAndGet
  intro s p tag serves
  refine ⟨fun selector mode address hs hm => profileCursor_answers serves hs hm,
    fun selector mode address past => profileCursor_refused serves past, fun count b => ?_,
    fun count b low high active standby defined =>
      profileGet_answers serves low high (ProfileStore.selected_eq active standby) defined⟩
  obtain ⟨outOfRange, inRange⟩ := State.profileGet_eq _ p count (s.cursor_takeInHand p (.profileGet p tag count))
  refine ⟨fun out => profileGet_refused serves (outOfRange out), fun low high selector none => ?_,
    fun low high active standby undefined => ?_⟩
  · obtain ⟨noBank, -⟩ := inRange low high
    refine profileGet_refused serves (noBank ?_)
    rw [selector]
    simp [ProfileStore.selected, ProfileStore.activeBank, none]
  · obtain ⟨-, bank⟩ := inRange low high
    exact profileGet_refused serves ((bank b (ProfileStore.selected_eq active standby)).1
      (b.readRun_none count.toNat _ undefined))

/-! ### PROFILE PUT -/

/-- PROFILE PUT at the store, by its checks in their order (R120, R121, R123). -/
theorem State.profilePut_eq (s : State) (p : PortId) (values : List Word) {k : ProfileCursor}
    (cursor : s.ports[p].cursor = k) :
    (s.holds p = false → s.profilePut p values = (s, .bare .notHolder)) ∧
    (s.holds p = true →
      ((s.store.bank s.store.standby).writeRun k.address values = none →
        s.profilePut p values = (s.startClaim p, .bare .invalid)) ∧
      ∀ b, (s.store.bank s.store.standby).writeRun k.address values = some b → s.profilePut p values =
        (((s.startClaim p).setStandby b).setCursor p (k.afterRun values.length (k.mode != .none)),
          .ok (.cursor (k.afterRun values.length (k.mode != .none))))) := by
  unfold State.profilePut
  rw [cursor]
  exact ⟨fun no => by simp [no], fun held => ⟨fun none => by simp only [if_pos held, none],
    fun b stored => by simp only [if_pos held, stored]⟩⟩

/-- Settles O45: the holder's run stored or refused, and another port refused. -/
theorem profilePutWritesStandby : Obligations.ProfilePutWritesStandby := by
  unfold Obligations.ProfilePutWritesStandby
  intro s p tag values serves low high
  have fits : (1 ≤ values.length && values.length ≤ profileRunLimit) = true := by simp [profileRunLimit, low, high]
  have owned : ∀ u, orMalformed (1 ≤ values.length && values.length ≤ profileRunLimit)
      (fun u => u.profilePut p values) u = u.profilePut p values := fun u => if_pos fits
  obtain ⟨notHolder, holder⟩ := State.profilePut_eq _ p values (s.cursor_takeInHand p (.profilePut p tag values))
  refine ⟨fun none => ?_, fun claim hclaim own => ?_⟩
  · exact serveStep_refuses serves _ tag (orMalformed _ fun u => u.profilePut p values) .notHolder
      ((owned _).trans (notHolder ((State.holds_eq_false _ p).mpr none)))
  obtain ⟨undefinedItem, stores⟩ := holder ((State.holds_iff _ p).mpr ⟨claim, hclaim, own⟩)
  refine ⟨fun undefined => ?_, fun defined => ?_⟩
  · exact serveStep_answers serves _ tag (owner := orMalformed _ fun u => u.profilePut p values)
      ((owned _).trans (undefinedItem (Bank.writeRun_none values _ _ undefined))) rfl
  · obtain ⟨b, stored, items, rest⟩ := Bank.writeRun_spec values (s.store.bank s.store.standby) _ defined
    have work := (owned _).trans (stores b stored)
    generalize hk : s.ports[p].cursor.afterRun values.length (s.ports[p].cursor.mode != .none) = k at work
    obtain ⟨selector, mode, stays, lands⟩ :=
      s.ports[p].cursor.afterRun_spec values.length (s.ports[p].cursor.mode != .none)
    rw [hk] at selector mode stays lands
    obtain ⟨t, run, frame, answered⟩ := serveStep_setsCursor serves _ tag
      (owner := orMalformed _ fun u => u.profilePut p values) work rfl
    have banks : t.store.banks = (s.setStandby b).store.banks := by
      rw [frame]
      rfl
    have bank : ∀ c, t.store.bank c = if c = s.store.standby then b else s.store.bank c := fun c => by
      rw [ProfileStore.bank, banks]
      exact s.setStandby_bank b c
    refine ⟨t, k, run, ?_, answered, selector, mode, fun never => stays (bne_eq_false_iff_eq.mpr never),
      fun advances => lands (bne_iff_ne.mpr advances), fun c other => (bank c).trans (if_neg other), ?_, ?_⟩
    · rw [banks]
      exact frame
    · rw [bank, if_pos rfl]
      exact items
    · rw [bank, if_pos rfl]
      exact rest

end Sys2Proof.Machine
end

section
/-! PROOFS. Validation and COMMIT SWITCH AT_SECOND (R123, R125 to R128). -/

namespace Sys2Proof.Machine

/-! ### The first failure of a list of checks -/

/-- Of checks in address order, the first that fails is the failing one of the lowest address. -/
theorem firstFailure_eq_some {l : List (Nat × Bool)} (order : l.Pairwise fun x y => x.1 < y.1) (a : Nat) :
    firstFailure l = some a ↔ (a, true) ∈ l ∧ ∀ a', a' < a → (a', true) ∉ l := by
  induction l with
  | nil => simp [firstFailure]
  | cons x l ih =>
    obtain ⟨head, tail⟩ := List.pairwise_cons.mp order
    obtain ⟨n, fails⟩ := x
    cases fails with
    | false => simp [firstFailure, ih tail]
    | true =>
      simp only [firstFailure, if_true, Option.some.injEq, List.mem_cons, Prod.mk.injEq, and_true, not_or]
      constructor
      · rintro rfl
        exact ⟨.inl rfl, fun a' lower => ⟨Nat.ne_of_lt lower, fun mem => Nat.lt_asymm lower (head _ mem)⟩⟩
      · rintro ⟨rfl | mem, first⟩
        · rfl
        · exact absurd rfl (first n (head _ mem)).1

theorem firstFailure_append (l m : List (Nat × Bool)) :
    firstFailure (l ++ m) = (firstFailure l).or (firstFailure m) := by
  induction l with
  | nil => rfl
  | cons x l ih =>
    obtain ⟨n, fails⟩ := x
    cases fails with
    | false => simpa [firstFailure] using ih
    | true => simp [firstFailure]

/-! ### The checks of the items -/

/-- The checks of a bank's items, in address order: validation but for the roster-wide check (R126, R127). -/
def itemChecks (b : Bank) : List (Nat × Bool) := globalChecks b ++ allStreams.flatMap (streamChecks b)

theorem Bank.failing_eq (b : Bank) :
    b.failing = (firstFailure (itemChecks b)).or (if allStreams.any b.enabled then none else some 16) := by
  rw [Bank.failing, firstFailure_append, itemChecks]
  cases allStreams.any b.enabled <;> rfl

/-- The checks of a stream group lie within the group's 16 addresses (R116, R127). -/
theorem streamChecks_range {b : Bank} {i : StreamId} {x : Nat × Bool} (mem : x ∈ streamChecks b i) :
    16 + 16 * i.val ≤ x.1 ∧ x.1 < 16 + 16 * (i.val + 1) := by
  unfold streamChecks at mem
  split at mem
  · simp only [List.mem_cons, List.not_mem_nil, or_false] at mem
    rcases mem with rfl | rfl | rfl | rfl | rfl | rfl <;> dsimp only <;> omega
  · obtain rfl := List.mem_singleton.mp mem
    dsimp only
    omega

theorem itemChecks_order (b : Bank) : (itemChecks b).Pairwise fun x y => x.1 < y.1 := by
  refine List.pairwise_append.mpr ⟨by simp [globalChecks], List.pairwise_flatMap.mpr ⟨fun i _ => ?_, ?_⟩,
    fun x hx y hy => ?_⟩
  · unfold streamChecks
    split <;> simp
  · refine (List.pairwise_lt_finRange 48).imp fun {i j} before x hx y hy => ?_
    have low := (streamChecks_range hx).2
    have high := (streamChecks_range hy).1
    have apart : i.val < j.val := before
    omega
  · obtain ⟨i, -, hy⟩ := List.mem_flatMap.mp hy
    have high := (streamChecks_range hy).1
    have low : ∀ z ∈ globalChecks b, z.1 < 12 := by simp [globalChecks]
    have below := low x hx
    omega

/-! ### What each check says -/

/-- A rate that its nominal frequency does not permit (R126). -/
theorem nominalRates_refuses (nominal rate : Nat) : (!(nominalRates nominal).contains rate) = true ↔
    ¬ (nominal = 50 ∧ rate ∈ [10, 25, 50, 100]) ∧ ¬ (nominal = 60 ∧ rate ∈ [10, 12, 15, 20, 30, 60, 120]) := by
  unfold nominalRates
  by_cases fifty : nominal = 50
  · subst fifty
    simp
  by_cases sixty : nominal = 60
  · subst sixty
    simp
  · simp [fifty, sixty]

/-- The capacity bound, without its rounding (R126). -/
theorem capacityBound_lt (fullWait rate : Nat) :
    capacityBound < slotsNeeded fullWait rate ↔ 446 * 1000 < fullWait * rate := by
  unfold capacityBound slotsNeeded
  omega

theorem codeTaken_iff (b : Bank) (i : StreamId) : codeTaken b i = true ↔
    ∃ j : StreamId, j < i ∧ b.enabled j = true ∧ b.station j = b.station i := by
  simp [codeTaken, allStreams, and_assoc]

/-- The checks of the global items that fail (R126). -/
theorem mem_globalChecks {b : Bank} {a : Nat} : (a, true) ∈ globalChecks b ↔
    (a = 0 ∧ b.rate ∉ [10, 12, 15, 20, 25, 30, 50, 60, 100, 120]) ∨
    (a = 1 ∧ ¬ (b.nominal = 50 ∧ b.rate ∈ [10, 25, 50, 100]) ∧
      ¬ (b.nominal = 60 ∧ b.rate ∈ [10, 12, 15, 20, 30, 60, 120])) ∨
    (a = 2 ∧ b.fullWait < b.fixedWait) ∨
    (a = 3 ∧ (b.fullWait < 20 ∨ 3000 < b.fullWait ∨ 446 * 1000 < b.fullWait * b.rate)) ∨
    (a = 4 ∧ 1 < b.global 4) ∨ (a = 5 ∧ b.fastMax < b.fastMin) ∨ (a = 6 ∧ b.fullWait < b.fastMax) ∨
    (a = 7 ∧ 500 < b.margin) ∨ (a = 8 ∧ (b.tolerance < 1 ∨ 500 < b.tolerance)) ∨
    (a = 9 ∧ (b.silenceLimit < 1 ∨ 60 < b.silenceLimit)) ∨ (a = 10 ∧ 14 < b.threshold) ∨
    (a = 11 ∧ 65535 < b.label.toNat) := by
  rw [← nominalRates_refuses, ← capacityBound_lt]
  simp only [globalChecks, List.mem_cons, List.not_mem_nil, or_false, Prod.mk.injEq, eq_comm (a := true),
    Bool.or_eq_true, decide_eq_true_eq, or_assoc, releaseRates, Bool.not_eq_true', List.contains_eq_mem,
    decide_eq_false_iff_not]

/-- The checks of an enabled stream group that fail (R127). -/
theorem mem_streamChecks_enabled {b : Bank} {i : StreamId} (on : b.enabled i = true) {a : Nat} :
    (a, true) ∈ streamChecks b i ↔
      (a = 16 + 16 * i.val + 1 ∧ (b.station i < 1 ∨ 65534 < b.station i ∨
        ∃ j : StreamId, j < i ∧ b.enabled j = true ∧ b.station j = b.station i)) ∨
      (a = 16 + 16 * i.val + 2 ∧
        ((¬ (b.nominal = 50 ∧ b.streamRate i ∈ [10, 25, 50, 100]) ∧
          ¬ (b.nominal = 60 ∧ b.streamRate i ∈ [10, 12, 15, 20, 30, 60, 120])) ∨
        (b.rate % b.streamRate i ≠ 0 ∧ b.streamRate i % b.rate ≠ 0))) ∨
      (a = 16 + 16 * i.val + 3 ∧ 1 < b.item i 3) ∨ (a = 16 + 16 * i.val + 4 ∧ 1 < b.item i 4) ∨
      (a = 16 + 16 * i.val + 5 ∧ (b.phasorCount i < 1 ∨ 12 < b.phasorCount i)) ∨
      (a = 16 + 16 * i.val + 6 ∧ 4 < b.analogCount i) := by
  rw [← nominalRates_refuses, ← codeTaken_iff]
  simp only [streamChecks, on, if_true, List.mem_cons, List.not_mem_nil, or_false, Prod.mk.injEq, eq_comm (a := true),
    Bool.or_eq_true, Bool.and_eq_true, bne_iff_ne, decide_eq_true_eq, or_assoc]

/-- The one check of a group that is not enabled (R127). -/
theorem mem_streamChecks_disabled {b : Bank} {i : StreamId} (off : b.enabled i = false) {a : Nat} :
    (a, true) ∈ streamChecks b i ↔ a = 16 + 16 * i.val ∧ 1 < b.item i 0 := by
  simp [streamChecks, off]

/-! ### Validation fails where a check of R126 or R127 does -/

theorem FailsAt.of_globalChecks {b : Bank} {a : Nat} (mem : (a, true) ∈ globalChecks b) : FailsAt b a := by
  rcases mem_globalChecks.mp mem with ⟨rfl, h⟩ | ⟨rfl, h⟩ | ⟨rfl, h⟩ | ⟨rfl, h⟩ | ⟨rfl, h⟩ | ⟨rfl, h⟩ | ⟨rfl, h⟩ |
    ⟨rfl, h⟩ | ⟨rfl, h⟩ | ⟨rfl, h⟩ | ⟨rfl, h⟩ | ⟨rfl, h⟩
  · exact .rate h
  · exact .nominal h
  · exact .fixedWait h
  · exact .fullWait h
  · exact .adaptive h
  · exact .fastMin h
  · exact .fastMax h
  · exact .margin h
  · exact .tolerance h
  · exact .silence h
  · exact .threshold h
  · exact .label h

theorem FailsAt.of_streamChecks {b : Bank} {i : StreamId} {a : Nat} (mem : (a, true) ∈ streamChecks b i) :
    FailsAt b a := by
  cases on : b.enabled i with
  | true =>
    rcases (mem_streamChecks_enabled on).mp mem with ⟨rfl, h⟩ | ⟨rfl, h⟩ | ⟨rfl, h⟩ | ⟨rfl, h⟩ | ⟨rfl, h⟩ | ⟨rfl, h⟩
    · exact .station i on h
    · exact .streamRate i on h
    · exact .gating i on h
    · exact .correction i on h
    · exact .phasors i on h
    · exact .analogs i on h
  | false =>
    obtain ⟨rfl, h⟩ := (mem_streamChecks_disabled on).mp mem
    exact .enabled i h

/-- A group whose enable item is out of range is not enabled (R117). -/
theorem Bank.enabled_of_item_gt {b : Bank} {i : StreamId} (out : 1 < b.item i 0) : b.enabled i = false := by
  rw [Bank.enabled, beq_eq_false_iff_ne]
  omega

theorem FailsAt.mem_itemChecks {b : Bank} {a : Nat} (fails : FailsAt b a) : (a, true) ∈ itemChecks b := by
  have group (i : StreamId) {a : Nat} (mem : (a, true) ∈ streamChecks b i) : (a, true) ∈ itemChecks b :=
    List.mem_append_right _ (List.mem_flatMap.mpr ⟨i, List.mem_finRange i, mem⟩)
  cases fails with
  | enabled i h => exact group i ((mem_streamChecks_disabled (Bank.enabled_of_item_gt h)).mpr ⟨rfl, h⟩)
  | station i on h | streamRate i on h | gating i on h | correction i on h | phasors i on h | analogs i on h =>
    refine group i ((mem_streamChecks_enabled on).mpr ?_)
    simp only [h]
    simp
  | _ h =>
    refine List.mem_append_left _ (mem_globalChecks.mpr ?_)
    simp only [h]
    simp

theorem itemChecks_iff {b : Bank} {a : Nat} : (a, true) ∈ itemChecks b ↔ FailsAt b a := by
  refine ⟨fun mem => ?_, FailsAt.mem_itemChecks⟩
  rcases List.mem_append.mp mem with mem | mem
  · exact .of_globalChecks mem
  · obtain ⟨i, -, mem⟩ := List.mem_flatMap.mp mem
    exact .of_streamChecks mem

theorem firstFailure_itemChecks (b : Bank) (a : Nat) :
    firstFailure (itemChecks b) = some a ↔ FailsAt b a ∧ ∀ a', a' < a → ¬ FailsAt b a' := by
  simp only [firstFailure_eq_some (itemChecks_order b), itemChecks_iff]

theorem firstFailure_itemChecks_none (b : Bank) : firstFailure (itemChecks b) = none ↔ ∀ a, ¬ FailsAt b a := by
  simp only [firstFailure_eq_none, ← itemChecks_iff]
  refine ⟨fun passes a mem => Bool.noConfusion (passes (a, true) mem), fun passes x mem => ?_⟩
  rw [← Bool.not_eq_true]
  exact fun fails => passes x.1 (fails ▸ mem)

/-- Validation finds the first failing item, or else address 16 where no stream is enabled (R126, R127). -/
theorem Bank.failing_iff (b : Bank) :
    (∀ a, b.failing = some a ↔ (FailsAt b a ∧ ∀ a', a' < a → ¬ FailsAt b a') ∨
      (a = 16 ∧ (∀ a', ¬ FailsAt b a') ∧ ∀ i : StreamId, b.enabled i = false)) ∧
    (b.failing = none ↔ (∀ a, ¬ FailsAt b a) ∧ ∃ i : StreamId, b.enabled i = true) := by
  have roster : allStreams.any b.enabled = true ↔ ∃ i : StreamId, b.enabled i = true := by simp [allStreams]
  have empty : ¬ allStreams.any b.enabled = true ↔ ∀ i : StreamId, b.enabled i = false := by simp [allStreams]
  rw [b.failing_eq, ← firstFailure_itemChecks_none, ← roster, ← empty]
  simp only [← firstFailure_itemChecks]
  cases firstFailure (itemChecks b) with
  | some a => simp
  | none => cases allStreams.any b.enabled <;> simp [eq_comm]

/-! ### COMMIT SWITCH AT_SECOND -/

/-- The switch second's range; the era bounds every 32-bit second (R125). -/
theorem switchSecondFits_iff (now : Nat) (second : Word) :
    switchSecondFits now second.toNat = true ↔ now + 2 ≤ second.toNat ∧ second.toNat ≤ now + 3600 := by
  have era : second.toNat ≤ lastSecond := Nat.le_of_lt_succ second.isLt
  simp [switchSecondFits, era]

/-- COMMIT SWITCH AT_SECOND at the store, by its checks in the order of R125. -/
theorem State.commitAtSecond_eq (s : State) (p : PortId) (mode : Byte) (S : Nat) :
    (s.holds p = false → s.commitAtSecond p mode S = (s, .bare .notHolder)) ∧
    (s.holds p = true →
      (mode ≠ 1 → s.commitAtSecond p mode S = (s.startClaim p, .bare .invalid)) ∧
      (mode = 1 → (s.store.active = none ∨ s.timebase.localTime = none) →
        s.commitAtSecond p mode S = (s.startClaim p, .bare .state)) ∧
      ∀ t₀, mode = 1 → s.store.active.isSome = true → s.timebase.localTime = some t₀ →
        (switchSecondFits t₀.second S = false → s.commitAtSecond p mode S = (s.startClaim p, .bare .invalid)) ∧
        (switchSecondFits t₀.second S = true →
          (∀ a, (s.store.bank s.store.standby).failing = some a →
            s.commitAtSecond p mode S = (s.startClaim p, { code := .refused, result := .failing a })) ∧
          ((s.store.bank s.store.standby).failing = none → s.commitAtSecond p mode S =
            ({ s with store := { s.store with claim := none, pendingSwitch := some S } }, .bare .ok)))) := by
  unfold State.commitAtSecond State.refuseCommit
  refine ⟨fun no => by simp [no], fun held => ⟨fun unknown => ?_, fun known absent => ?_,
    fun t₀ known active set => ?_⟩⟩
  · rw [if_neg (by simp [held]), if_pos unknown]
  · rcases absent with none | none
    · simp [held, known, none]
    · cases s.store.active <;> simp [held, known, none]
  · have provisioned : s.store.active ≠ none := Option.isSome_iff_ne_none.mp active
    simp only [held, known, provisioned, set]
    exact ⟨fun out => by simp [out], fun fits => ⟨fun a failing => by simp [fits, failing],
      fun passes => by simp [fits, passes]⟩⟩

/-- Settles O47: validation by its checks, and the request by its own in their order. -/
theorem commitAtSecondSchedules : Obligations.CommitAtSecondSchedules := by
  unfold Obligations.CommitAtSecondSchedules
  refine ⟨Bank.failing_iff, fun s p tag mode second serves _ => ?_⟩
  obtain ⟨notHolder, holder⟩ := State.commitAtSecond_eq
    (s.updPort p (Port.takeInHand (.commitSwitchAtSecond p tag mode second))) p mode second.toNat
  refine ⟨fun none => ?_, fun c claim own => ?_⟩
  · exact serveStep_refuses serves _ tag (fun u => u.commitAtSecond p mode second.toNat) .notHolder
      (notHolder ((State.holds_eq_false _ p).mpr none))
  obtain ⟨unknown, absent, checked⟩ := holder ((State.holds_iff _ p).mpr ⟨c, claim, own⟩)
  have run := serveStep_idle serves (.commitSwitchAtSecond p tag mode second) tag
    (fun u => u.commitAtSecond p mode second.toNat)
  generalize State.answer _ p tag _ = t at run
  have answers {u : State} {r : Reply} (work : (s.updPort p (Port.takeInHand
      (.commitSwitchAtSecond p tag mode second))).commitAtSecond p mode second.toNat = (u, r))
      (ports : u.ports = update s.ports p (Port.takeInHand (.commitSwitchAtSecond p tag mode second))) :
      t = { u with ports := t.ports } ∧ AnsweredAt p tag r.code r.result s.ports[p] s t := by
    obtain ⟨t', run', answered⟩ := serveStep_answers serves _ tag
      (owner := fun u => u.commitAtSecond p mode second.toNat) work ports
    obtain rfl := Host.Outcome.next.inj (run.symm.trans run')
    exact answered
  refine ⟨t, run, fun other => answers (unknown other) rfl, fun known none => answers (absent known none) rfl,
    fun t₀ known active set => ?_⟩
  obtain ⟨outOfRange, inRange⟩ := checked t₀ known active set
  refine ⟨fun out => answers (outOfRange ?_) rfl, fun low high => ?_⟩
  · rw [← Bool.not_eq_true, switchSecondFits_iff]
    omega
  · obtain ⟨fails, passes⟩ := inRange ((switchSecondFits_iff _ _).mpr ⟨low, high⟩)
    exact ⟨fun a failing => answers (fails a failing) rfl, fun valid => answers (passes valid) rfl⟩

end Sys2Proof.Machine
end

section
/-! PROOFS. The front of the queue, a response that leaves its port, and SET MASK (R149 to R153, R180, R188, R189). -/

namespace Sys2Proof.Machine

/-- Settles O1. -/
theorem stepRunsFrontCommand : Obligations.StepRunsFrontCommand := by
  unfold Obligations.StepRunsFrontCommand
  intro c rest s
  rw [step]

/-! ### A change of one port -/

/-- A change of one port leaves the other ports (R147, R174). -/
theorem State.updPort_others (s : State) (p : PortId) (f : Port → Port) : OtherPortsSame p s (s.updPort p f) := by
  intro q hq
  simp [hq]

/-- What a change makes of its port is all that counts. -/
theorem State.updPort_congr {s : State} {p : PortId} {f g : Port → Port} (same : f s.ports[p] = g s.ports[p]) :
    s.updPort p f = s.updPort p g := by
  unfold State.updPort update
  congr 2
  funext j
  split
  next e => rw [e, same]
  next => rfl

/-- Two changes of one port are one change. -/
theorem State.updPort_updPort (s : State) (p : PortId) (f g : Port → Port) :
    (s.updPort p f).updPort p g = s.updPort p fun q => g (f q) :=
  congrArg (fun ports => { s with ports := ports }) (update_update s.ports p f g)

@[simp] theorem State.updPort_operating (s : State) (p : PortId) (f : Port → Port) :
    (s.updPort p f).operating = s.operating := rfl

/-! ### A response leaves -/

/-- Settles O36: the first response leaves the queue, and its bytes are those of R188. -/
theorem responseLeaves : Obligations.ResponseLeaves := by
  unfold Obligations.ResponseLeaves
  intro s p f rest on outbound
  have run : exec (.responseSent p) s = .next (s.updPort p Port.responseSent) :=
    congrArg _ (State.whileOperating_on on _)
  have first : s.ports[p.val].outbound = f :: rest := outbound
  exact ⟨_, run, rfl, s.updPort_others p _, by simp [Port.responseSent, first], rfl⟩

/-! ### SET MASK -/

/-- The attention line of a port is asserted exactly while a kind of its mask is latched or live (R180). -/
theorem attention_iff {s : State} (on : s.operating = true) (p : PortId) : attention s p = true ↔
    ∃ k : Kind, kindIn k s.ports[p].mask = true ∧
      (kindIn k s.ports[p].latched = true ∨ kindIn k (liveKinds s p) = true) := by
  rw [attention, on, Bool.true_and, ne_zero_iff]
  simp [presentKinds, and_comm]

/-- The live kinds follow the table, the supervisor, and what a port keeps of its reading (R178, R179). -/
theorem liveKinds_congr {s t : State} {p : PortId} (table : t.table = s.table) (supervisor : t.supervisor = s.supervisor)
    (subFast : t.ports[p].subFast = s.ports[p].subFast) (subFull : t.ports[p].subFull = s.ports[p].subFull)
    (fast : t.ports[p].fastCursor = s.ports[p].fastCursor) (full : t.ports[p].fullCursor = s.ports[p].fullCursor)
    (watch : t.ports[p].watch = s.ports[p].watch) : liveKinds t p = liveKinds s p := by
  simp only [liveKinds, snapshotWaiting, rosterChanged, table, supervisor, subFast, subFull, fast, full, watch]

theorem noRepeat_iff (bs : List Byte) : noRepeat bs = true ↔ bs.Nodup := by
  induction bs with
  | nil => simp [noRepeat]
  | cons b bs ih => simp [noRepeat, ih]

/-- A kind is in the set that codes name exactly when one of them is its code (R190). -/
theorem kindIn_kindSetOf (k : Kind) (codes : List Byte) :
    kindIn k (kindSetOf codes) = true ↔ BitVec.ofNat 8 k.code ∈ codes := by
  have named (c : Byte) : kindIn k (kindBit c.toNat) = true ↔ BitVec.ofNat 8 k.code = c := by
    have lt := k.code_lt
    rw [kindIn, kindBit_getLsbD]
    simp only [Bool.and_eq_true, decide_eq_true_eq]
    bv_omega
  have fold : ∀ set : KindSet, kindIn k (codes.foldl (fun s c => s ||| kindBit c.toNat) set) = true ↔
      kindIn k set = true ∨ BitVec.ofNat 8 k.code ∈ codes := by
    induction codes with
    | nil => simp
    | cons c codes ih =>
      intro set
      rw [List.foldl_cons, ih, kindIn_or, Bool.or_eq_true, named, List.mem_cons, or_assoc]
  simpa [kindSetOf] using fold 0

/-- The mask that SET MASK carries, by the three conditions of R153 and R189. -/
theorem decodeMask_eq (count : Byte) (kinds : List Byte) : decodeMask count kinds =
    if count.toNat ≤ 15 ∧ (∀ c ∈ kinds.take count.toNat, c.toNat < 15) ∧ (kinds.take count.toNat).Nodup then
      some (kindSetOf (kinds.take count.toNat)) else none := by
  simp [decodeMask, noRepeat_iff, and_assoc]

/-- SET MASK with 15 kind bytes reaches the port (R188). -/
theorem setMask_reaches (p : PortId) (count : Byte) {kinds : List Byte} (fifteen : kinds.length = 15) (u : State) :
    orMalformed (kinds.length == 15) (fun s => s.setMask p count kinds) u = u.setMask p count kinds := by
  rw [orMalformed, fifteen]
  rfl

/-- SET MASK at the port, by the three conditions of R153 and R189. -/
theorem State.setMask_eq (s : State) (p : PortId) (count : Byte) (kinds : List Byte) :
    let used := kinds.take count.toNat
    let fits := count.toNat ≤ 15 ∧ (∀ c ∈ used, c.toNat < 15) ∧ used.Nodup
    (fits → s.setMask p count kinds =
      (s.updPort p (fun q => { q with mask := kindSetOf used }), .ok (.mask (kindSetOf used)))) ∧
    (¬ fits → s.setMask p count kinds = (s, .bare .invalid)) := by
  dsimp only
  rw [State.setMask, decodeMask_eq]
  exact ⟨fun fits => by rw [if_pos fits], fun bad => by rw [if_neg bad]⟩

/-- Settles O39: the mask by the conditions on the kinds named, and the attention line by the new mask. -/
theorem setMaskReplacesMask : Obligations.SetMaskReplacesMask := by
  unfold Obligations.SetMaskReplacesMask
  intro s p tag count kinds serves fifteen
  obtain ⟨replaces, refuses⟩ :=
    (s.updPort p (Port.takeInHand (.setMask p tag count kinds))).setMask_eq p count kinds
  refine ⟨fun few named distinct => ?_, fun bad => ?_⟩
  · obtain ⟨t, run, frame, answer, others⟩ := serveStep_updPort serves (.setMask p tag count kinds) tag
      ((setMask_reaches p count fifteen _).trans (replaces ⟨few, named, distinct⟩)) fun _ => rfl
    have live : liveKinds t p = liveKinds s p := by
      refine liveKinds_congr (by rw [frame]) (by rw [frame]) ?_ ?_ ?_ ?_ ?_ <;> (rw [answer]; rfl)
    have on : t.operating = true := by
      rw [frame]
      exact serves.1
    refine ⟨t, _, run, frame, ⟨answer, others⟩, fun k => kindIn_kindSetOf k _, ?_⟩
    rw [attention_iff on, live, answer]
    rfl
  · refine serveStep_refuses serves (.setMask p tag count kinds) tag _ .invalid
      ((setMask_reaches p count fifteen _).trans (refuses ?_))
    rintro ⟨few, named, distinct⟩
    obtain many | ⟨c, used, unnamed⟩ | twice := bad
    · omega
    · exact absurd (named c used) (by omega)
    · exact twice distinct

end Sys2Proof.Machine
end

section
/-! PROOFS. A request's frame on a port's line: the receiver over a whole frame and over one that is broken off, the bytes it
skips, and the frame's decoding (R147 to R150, R157, R188, R189). -/

namespace Sys2Proof.Machine

/-! ### The lengths and the payloads of requests -/

/-- The model's length test is the table of R188 and R189. -/
theorem lengthFits_iff (code : Byte) (n : Nat) : lengthFits code n = true ↔ FitsCode code n := by
  have run : (4 ≤ n ∧ n ≤ 256 ∧ n % 4 = 0) ↔ ∃ k, 1 ≤ k ∧ k ≤ 64 ∧ n = 4 * k :=
    ⟨fun h => ⟨n / 4, by omega⟩, fun ⟨k, h⟩ => by omega⟩
  by_cases put : code.toNat = 12
  · simp [lengthFits, FitsCode, put, ← run, and_assoc]
  · unfold lengthFits FitsCode
    split <;> simp_all

/-- No request's payload is longer than the 64 values of a PROFILE PUT (R120, R188). -/
theorem FitsCode.length_le {code : Byte} {n : Nat} (fits : FitsCode code n) : n ≤ 256 := by
  obtain listed | ⟨-, k, -, most, rfl⟩ := fits
  · simp only [List.mem_cons, Prod.mk.injEq, List.not_mem_nil, or_false] at listed
    omega
  · omega

/-- A field between two parts of a payload is read back (R188). -/
theorem ofNat_field {w n : Nat} (width : 2 ^ w = 256 ^ n) (before : List Byte) (v : BitVec w) (rest : List Byte) :
    BitVec.ofNat w (field (before ++ (bytesOf n v.toNat ++ rest)) before.length n) = v := by
  have first := field_drop (before ++ (bytesOf n v.toNat ++ rest)) before.length 0 n
  rw [Nat.add_zero, List.drop_left, field_read rest (width ▸ v.isLt)] at first
  rw [first, BitVec.ofNat_toNat, BitVec.setWidth_eq]

/-- The values of a PROFILE PUT are read back (R188). -/
theorem words_flatMap (values : List Word) : words (values.flatMap fun v => bytesOf 4 v.toNat) = values := by
  induction values with
  | nil => rfl
  | cons v values ih =>
    have first : BitVec.ofNat 32 (valueOf (bytesOf 4 v.toNat)) = v := by
      rw [valueOf_bytesOf v.isLt, BitVec.ofNat_toNat, BitVec.setWidth_eq]
    rw [List.flatMap_cons]
    change BitVec.ofNat 32 (valueOf (bytesOf 4 v.toNat)) :: words (values.flatMap fun v => bytesOf 4 v.toNat) = v :: values
    rw [first, ih]

/-! ### A request decoded -/

/-- The command that a request's code and payload ask for is the request (R188, R190). -/
theorem requestOf_encoded {c : Instr} {p : PortId} {tag code : Byte} {payload : List Byte} (fits : c.WellFormed = true)
    (sent : encodeRequest c = some (p, tag, code, payload)) : requestOf p tag code payload = some c := by
  cases c with
  | readSnapshotNext q tag kind unused =>
    cases sent
    have seq := ofNat_field (n := 6) rfl [kind, 0] unused []
    rw [List.append_nil] at seq
    exact congrArg (fun v => some (Instr.readSnapshotNext p tag kind v)) seq
  | readSnapshotSequence q tag kind target seq =>
    cases sent
    have read := ofNat_field (n := 6) rfl [kind, target] seq []
    rw [List.append_nil] at read
    have named : target ≠ 0 := by simpa [Instr.WellFormed] using fits
    exact (if_neg named).trans (congrArg (fun v => some (Instr.readSnapshotSequence p tag kind target v)) read)
  | commitSwitchAtSecond q tag mode second =>
    cases sent
    have read := ofNat_field (n := 4) rfl [mode] second []
    rw [List.append_nil] at read
    have named : mode ≠ 0 := by simpa [Instr.WellFormed] using fits
    exact (if_neg named).trans (congrArg (fun v => some (Instr.commitSwitchAtSecond p tag mode v)) read)
  | commitSwitchNow q tag ignored =>
    cases sent
    have read := ofNat_field (n := 4) rfl [0] ignored []
    rw [List.append_nil] at read
    exact congrArg (fun v => some (Instr.commitSwitchNow p tag v)) read
  | profileCursor q tag selector address mode =>
    cases sent
    have read := ofNat_field (n := 2) rfl [selector] address [mode]
    exact congrArg (fun a => some (Instr.profileCursor p tag selector a mode)) read
  | profilePut q tag values =>
    cases sent
    exact congrArg (fun vs => some (Instr.profilePut p tag vs)) (words_flatMap values)
  | _ => cases sent <;> rfl

/-- A request's payload has a length that its code calls for (R188). -/
theorem fitsCode_encoded {c : Instr} {p : PortId} {tag code : Byte} {payload : List Byte} (fits : c.WellFormed = true)
    (sent : encodeRequest c = some (p, tag, code, payload)) : FitsCode code payload.length := by
  rw [← lengthFits_iff]
  cases c with
  | setMask q tag count kinds => exact Laws.RequestPayload.setMask q tag count kinds fits _ sent
  | subscribe q tag kinds start count indices =>
    exact Laws.RequestPayload.subscribe q tag kinds start count indices fits _ sent
  | profilePut q tag values => exact Laws.RequestPayload.profilePut q tag values fits _ sent
  | _ => cases sent <;> simp [lengthFits]

/-- A request decoded from what its consumer sends is the request (R188, R189, R190). -/
theorem decodeRequest_encoded {c : Instr} {p : PortId} {tag code : Byte} {payload : List Byte} (fits : c.WellFormed = true)
    (sent : encodeRequest c = some (p, tag, code, payload)) : decodeRequest p tag code payload = some c := by
  rw [decodeRequest, if_pos ((lengthFits_iff _ _).mpr (fitsCode_encoded fits sent)), requestOf_encoded fits sent]

/-- A code or a length that fits no request decodes to none (R149, R189). -/
theorem decodeRequest_unfit {code : Byte} {payload : List Byte} (unfit : ¬ FitsCode code payload.length) (p : PortId)
    (tag : Byte) : decodeRequest p tag code payload = none := by
  rw [decodeRequest, if_neg (by rwa [lengthFits_iff])]

/-! ### The receiver -/

/-- A request frame's bytes after the preamble: tag, code, the two length bytes, the payload and the check value (R188). -/
def requestBody (tag code hi lo : Byte) (payload check : List Byte) : List Byte :=
  tag :: code :: hi :: lo :: payload ++ check

/-- One event on a port whose receiver is gathering (R147). -/
theorem Port.lineEvent_receiving (p : PortId) (now : Nat) (q : Port) (got : List Byte) (last : Nat) (e : LineEvent) :
    Port.lineEvent p now { q with rx := .receiving got last } e =
      { q with rx := (requestReceive now (.receiving got last) e).1 }.arrival p
        (requestReceive now (.receiving got last) e).2 := by
  cases e <;> rfl

/-- The preamble puts a hunting receiver to gathering (R147). -/
theorem Port.line_start {q : Port} (hunting : q.rx = .hunting) (p : PortId) (now : Nat) (line : List LineEvent) :
    Port.line p now (.byte 0x5A :: line) q = line.foldl (Port.lineEvent p now) { q with rx := .receiving [] now } := by
  rw [Port.line, hunting, Rx.sees_hunting, List.foldl_cons, Port.lineEvent, hunting]
  rfl

/-- Every proper beginning of a frame's body is gathered without an arrival (R147). -/
theorem requestGather_begins (now : Nat) {tag code hi lo : Byte} {payload check : List Byte}
    (length : payload.length = valueOf [hi, lo]) (fits : payload.length ≤ 8192) (two : check.length = 2)
    {got rest : List Byte} {b last : Byte} (body : requestBody tag code hi lo payload check = got ++ b :: (rest ++ [last])) :
    requestGather now (got ++ [b]) = (.receiving (got ++ [b]) now, .nothing) := by
  match got with
  | [] | [_] | [_, _] => rfl
  | [_, _, _] =>
    obtain ⟨rfl, rfl, rfl, rfl, -⟩ : _ = tag ∧ _ = code ∧ _ = hi ∧ b = lo ∧ _ := by
      simpa [requestBody, eq_comm] using body
    exact requestGather_short now _ _ _ _ [] (length ▸ fits) (by simp)
  | _ :: _ :: _ :: _ :: got =>
    obtain ⟨rfl, rfl, rfl, rfl, tail⟩ : tag = _ ∧ code = _ ∧ hi = _ ∧ lo = _ ∧
        payload ++ check = got ++ b :: (rest ++ [last]) := by
      simpa [requestBody] using body
    have whole := congrArg List.length tail
    simp [two] at whole
    exact requestGather_short now _ _ _ _ (got ++ [b]) (length ▸ fits) (by simp; omega)

/-- The preamble and a body of an allowed length, on a hunting receiver, arrive as one frame (R147). -/
theorem Port.line_whole {q : Port} (hunting : q.rx = .hunting) (p : PortId) (now : Nat) (tag code : Byte) {hi lo : Byte}
    {payload check : List Byte} (length : payload.length = valueOf [hi, lo]) (fits : payload.length ≤ 8192)
    (two : check.length = 2) :
    Port.line p now ((0x5A :: requestBody tag code hi lo payload check).map LineEvent.byte) q =
      q.arrival p (.whole (requestBody tag code hi lo payload check)) := by
  obtain ⟨tail, last, body⟩ : ∃ tail last, requestBody tag code hi lo payload check = tail ++ [last] :=
    ⟨_, _, (List.dropLast_append_getLast (by simp [requestBody])).symm⟩
  rw [List.map_cons, Port.line_start hunting, body]
  refine foldl_gather (Port.lineEvent p now) (fun got => { q with rx := .receiving got now }) _ [] tail last ?_ ?_
  · rintro mid b rest rfl
    have quiet := requestGather_begins now (rest := rest) (last := last) (got := mid) (b := b) length fits two
      (by rw [body]; simp)
    simp [Port.lineEvent_receiving, requestReceive, quiet, Port.arrival]
  · have whole := requestGather_whole now tag code hi lo (payload ++ check) (length ▸ fits) (by simp [two, length])
    rw [show tag :: code :: hi :: lo :: (payload ++ check) = tail ++ [last] from body] at whole
    have same : { q with rx := .hunting } = q := by rw [← hunting]
    simp [Port.lineEvent_receiving, requestReceive, whole, same]

/-- The check of R147 on a frame's body. -/
theorem checkRequestFrame_body (tag code : Byte) {hi lo : Byte} {payload : List Byte} (check : List Byte)
    (length : payload.length = valueOf [hi, lo]) : checkRequestFrame (requestBody tag code hi lo payload check) =
      if (crc16 (tag :: code :: hi :: lo :: payload)).toNat = valueOf check then some (tag, code, payload) else none := by
  simp [checkRequestFrame, requestBody, ← length]

/-- A good frame on a hunting receiver reaches the handler (R147, R149, R150). -/
theorem Port.line_frame {q : Port} (hunting : q.rx = .hunting) (p : PortId) (now : Nat) (tag code : Byte)
    {payload : List Byte} (fits : payload.length ≤ 8192) :
    Port.line p now ((consumerFrameBytes tag code payload).map LineEvent.byte) q = q.goodFrame p tag code payload := by
  obtain ⟨hi, lo, size⟩ : ∃ hi lo, bytesOf 2 payload.length = [hi, lo] := ⟨_, _, rfl⟩
  have length : payload.length = valueOf [hi, lo] := by
    rw [← size, valueOf_bytesOf (by omega)]
  have frame : consumerFrameBytes tag code payload = 0x5A :: requestBody tag code hi lo payload
      (bytesOf 2 (crc16 (tag :: code :: hi :: lo :: payload)).toNat) := by
    simp [consumerFrameBytes, requestBody, size]
  rw [frame, Port.line_whole hunting p now tag code length fits (length_bytesOf _ _), Port.arrival,
    checkRequestFrame_body tag code _ length, if_pos (valueOf_crc16 _).symm]

/-- A hunting receiver takes a line event by event (R147). -/
theorem Port.line_hunting {q : Port} (hunting : q.rx = .hunting) (p : PortId) (now : Nat) (line : List LineEvent) :
    Port.line p now line q = line.foldl (Port.lineEvent p now) q := by
  rw [Port.line, hunting, Rx.sees_hunting]

/-! ### Frames that are discarded, and skipped bytes -/

/-- A discarded frame raises the discard count and LINK_ERROR in its port, and changes nothing else there (R148). -/
theorem Port.discard_raises (q : Port) : Raised [.linkError] { q with discardCount := q.discardCount + 1 } q.discard :=
  Raised.latch .linkError _

/-- A line that a hunting port discards: a check value that disagrees, or a frame broken off (R147, R148). -/
theorem Port.line_drops {q : Port} (hunting : q.rx = .hunting) (p : PortId) (now : Nat) {tag code hi lo : Byte}
    {payload check : List Byte} {line : List LineEvent}
    (bad : line = (0x5A :: tag :: code :: hi :: lo :: payload ++ check).map LineEvent.byte ∧
        payload.length = valueOf [hi, lo] ∧ payload.length ≤ 8192 ∧ check.length = 2 ∧
        valueOf check ≠ (crc16 (tag :: code :: hi :: lo :: payload)).toNat
      ∨ line = [.byte 0x5A, .byte tag, .badStop] ∨ line = [.byte 0x5A, .byte tag, .longGap]
      ∨ (8192 < valueOf [hi, lo] ∧ line = [.byte 0x5A, .byte tag, .byte code, .byte hi, .byte lo])) :
    Port.line p now line q = q.discard := by
  have broken {got : List Byte} {e : LineEvent} (off : requestReceive now (.receiving got now) e = (.hunting, .brokenOff)) :
      Port.lineEvent p now { q with rx := .receiving got now } e = q.discard := by
    rw [Port.lineEvent_receiving, off, ← hunting]
    rfl
  rcases bad with ⟨rfl, length, fits, two, disagrees⟩ | rfl | rfl | ⟨overrun, rfl⟩
  · have whole := Port.line_whole hunting p now tag code length fits two
    rw [Port.arrival, checkRequestFrame_body tag code check length, if_neg disagrees.symm] at whole
    exact whole
  · rw [Port.line_start hunting]
    exact broken (got := [tag]) (e := .badStop) rfl
  · rw [Port.line_start hunting]
    exact broken (got := [tag]) (e := .longGap) rfl
  · have quiet : ([tag, code, hi].map LineEvent.byte).foldl (Port.lineEvent p now) { q with rx := .receiving [] now } =
        { q with rx := .receiving [tag, code, hi] now } := by
      simp [Port.lineEvent_receiving, requestReceive, requestGather, Port.arrival]
    have off : requestReceive now (.receiving [tag, code, hi] now) (.byte lo) = (.hunting, .brokenOff) := if_pos overrun
    rw [Port.line_start hunting]
    change ([tag, code, hi].map LineEvent.byte ++ [LineEvent.byte lo]).foldl (Port.lineEvent p now) _ = _
    rw [List.foldl_append, quiet]
    exact broken off

/-- Bytes other than the preamble are skipped and counted while the receiver hunts (R147, R157). -/
theorem Port.foldl_noise (p : PortId) (now : Nat) : ∀ (noise : List Byte) {q : Port}, q.rx = .hunting →
    (∀ b ∈ noise, b ≠ 0x5A) → (noise.map LineEvent.byte).foldl (Port.lineEvent p now) q =
      { q with skippedCount := q.skippedCount + BitVec.ofNat 32 noise.length }
  | [], q, _, _ => by simp
  | b :: noise, q, hunting, skipped => by
    have other : b ≠ 0x5A := skipped b List.mem_cons_self
    have first : Port.lineEvent p now q (.byte b) = { q with skippedCount := q.skippedCount + 1 } := by
      have stays : requestReceive now .hunting (.byte b) = (.hunting, .nothing) := if_neg other
      have counted : skips .hunting (.byte b) = true := bne_iff_ne.mpr other
      rw [Port.lineEvent, hunting, stays, counted, ← hunting]
      rfl
    have rest := Port.foldl_noise p now noise (q := { q with skippedCount := q.skippedCount + 1 }) hunting
      fun c hc => skipped c (List.mem_cons_of_mem b hc)
    have count : q.skippedCount + 1 + BitVec.ofNat 32 noise.length =
        q.skippedCount + BitVec.ofNat 32 (noise.length + 1) := by
      bv_omega
    rw [List.map_cons, List.foldl_cons, first, rest, List.length_cons, count]

/-- The gap of elapsed time comes before the line: the frame is discarded, and the line taken as by a hunting receiver (R147,
R148). -/
theorem Port.line_behind_gap (p : PortId) (now : Nat) {q : Port} {got : List Byte} {last : Nat}
    (receiving : q.rx = .receiving got last) (past : requestGapTime < now - last) (line : List LineEvent) :
    Port.line p now line q = Port.line p now line { q with rx := .hunting }.discard := by
  have event : Port.lineEvent p now q .longGap = { q with rx := .hunting }.discard := by
    rw [Port.lineEvent, receiving]
    rfl
  have hunts : ({ q with rx := .hunting } : Port).discard.rx = .hunting := rfl
  rw [Port.line_hunting hunts, Port.line, receiving, Rx.sees_receiving, if_pos past,
    List.foldl_cons, event]

/-! ### The arrival of characters -/

/-- Characters reach the receiver of a port that operates, and change that port alone (R147). -/
theorem exec_requestFrameArrival {s : State} (on : s.operating = true) (p : PortId) (line : List LineEvent) :
    exec (.requestFrameArrival p line) s = .next (s.updPort p (Port.line p s.timebase.elapsed line)) :=
  congrArg _ (State.whileOperating_on on _)

/-- Characters that leave a port as `f` does leave the state with `f` done to that port. -/
theorem exec_requestFrameArrival_as {s : State} (on : s.operating = true) {p : PortId} {line : List LineEvent}
    {f : Port → Port} (leaves : Port.line p s.timebase.elapsed line s.ports[p] = f s.ports[p]) :
    exec (.requestFrameArrival p line) s = .next (s.updPort p f) := by
  rw [exec_requestFrameArrival on, State.updPort_congr leaves]

/-- A change that leaves its port alone leaves the state alone. -/
theorem State.updPort_same {s : State} {p : PortId} {f : Port → Port} (same : f s.ports[p] = s.ports[p]) :
    s.updPort p f = s :=
  congrArg (fun ports => { s with ports := ports }) (update_same s.ports p f same)

theorem State.updPort_self (s : State) (p : PortId) (f : Port → Port) : (s.updPort p f).ports[p] = f s.ports[p] := by
  simp

/-- A good frame at a port that is EXECUTING is not decoded (R150). -/
theorem Port.goodFrame_busy {q : Port} (busy : q.handler ≠ .idle) (p : PortId) (tag code : Byte) (payload : List Byte) :
    q.goodFrame p tag code payload = q.busyAnswer tag := by
  unfold Port.goodFrame
  split
  next idle => exact absurd idle busy
  next => rfl

/-- A good frame that fits no request, at an IDLE port (R149). -/
theorem Port.goodFrame_unfit {q : Port} (idle : q.handler = .idle) (p : PortId) (tag : Byte) {code : Byte}
    {payload : List Byte} (unfit : ¬ FitsCode code payload.length) :
    q.goodFrame p tag code payload = answered tag .malformed .empty q := by
  rw [Port.goodFrame, idle, decodeRequest_unfit unfit]
  rfl

/-- Settles O35: each line by what it leaves of the port it reaches. -/
theorem executingPortAnswersBusy : Obligations.ExecutingPortAnswersBusy := by
  unfold Obligations.ExecutingPortAnswersBusy
  intro s p on
  refine ⟨fun tag code payload busy hunting fits => ?_, fun tag code payload idle hunting fits unfit => ?_,
    fun tag code hi lo payload check line hunting bad => ?_, fun noise hunting skipped => ?_,
    fun got last receiving => ⟨fun near => ?_, fun past => ?_⟩⟩
  · have leaves := (Port.line_frame hunting p s.timebase.elapsed tag code fits).trans
      (Port.goodFrame_busy busy p tag code payload)
    refine ⟨_, exec_requestFrameArrival_as on leaves, rfl, s.updPort_others p _, fun room => ?_, fun full => ?_⟩
    · rw [State.updPort_self]
      exact if_pos room
    · have discards : s.ports[p].busyAnswer tag = s.ports[p].discard := if_neg (Nat.not_lt.mpr full)
      rw [State.updPort_self, discards]
      exact Port.discard_raises _
  · have leaves := (Port.line_frame hunting p s.timebase.elapsed tag code fits).trans
      (Port.goodFrame_unfit idle p tag unfit)
    exact ⟨_, exec_requestFrameArrival_as on leaves, rfl, s.updPort_self p _, s.updPort_others p _⟩
  · have leaves := Port.line_drops hunting p s.timebase.elapsed bad
    refine ⟨_, exec_requestFrameArrival_as on leaves, rfl, s.updPort_others p _, ?_⟩
    rw [State.updPort_self]
    exact Port.discard_raises _
  · have counts : Port.line p s.timebase.elapsed (noise.map LineEvent.byte) s.ports[p] = _ :=
      (Port.line_hunting hunting p _ _).trans (Port.foldl_noise p _ noise hunting skipped)
    refine ⟨_, exec_requestFrameArrival on p _, rfl, s.updPort_others p _, (s.updPort_self p _).trans counts,
      fun line => ?_⟩
    rw [exec_requestFrameArrival on, exec_requestFrameArrival (by exact on), State.updPort_updPort]
    refine congrArg _ (State.updPort_congr ?_)
    have hunts : (Port.line p s.timebase.elapsed (noise.map LineEvent.byte) s.ports[p]).rx = .hunting := by
      rw [counts]
      exact hunting
    rw [Port.line_hunting hunting, List.foldl_append, ← Port.line_hunting hunting]
    exact (Port.line_hunting hunts p _ line).symm
  · rw [exec_requestFrameArrival on, State.updPort_same]
    rw [Port.line, receiving, Rx.sees_receiving, if_neg (by unfold requestGapTime elapsedSecond; omega)]
    rfl
  · have gap : requestGapTime < s.timebase.elapsed - last := by unfold requestGapTime elapsedSecond; omega
    have leaves := Port.line_gap p s.timebase.elapsed s.ports[p] got last receiving gap
    refine ⟨_, exec_requestFrameArrival_as (f := fun q => { q with rx := .hunting }.discard) on leaves,
      ⟨rfl, s.updPort_others p _, ?_⟩, fun line => ?_⟩
    · rw [State.updPort_self]
      exact Port.discard_raises _
    · rw [exec_requestFrameArrival on, exec_requestFrameArrival (by exact on), State.updPort_updPort]
      exact congrArg _ (State.updPort_congr (Port.line_behind_gap p _ receiving gap line))

end Sys2Proof.Machine
end

section
/-! PROOFS. A port's conditions are its own: what a request leaves of the ports, and what every command leaves of the latched
kinds (R155, R174, R175); and a request in hand at its owner (R149). -/

namespace Sys2Proof.Machine

/-! ### Ports reached by conditions and cursors alone -/

/-- A change of a port that takes no kind from its latched set (R175). -/
def Port.KeepsLatched (f : Port → Port) : Prop :=
  ∀ q k, kindIn k q.latched = true → kindIn k (f q).latched = true

/-- A change of a port that leaves its latched set as it is. -/
theorem Port.KeepsLatched.of_eq {f : Port → Port} (same : ∀ q, (f q).latched = q.latched) : Port.KeepsLatched f :=
  fun q k latched => by rwa [same q]

theorem Port.KeepsLatched.comp {f g : Port → Port} (hf : Port.KeepsLatched f) (hg : Port.KeepsLatched g) :
    Port.KeepsLatched fun q => g (f q) := fun q k latched => hg _ k (hf q k latched)

theorem Port.latch_keepsLatched (k : Kind) : Port.KeepsLatched (Port.latch k) :=
  fun q j latched => by simp [Port.latch, latched]

theorem Port.discard_keepsLatched : Port.KeepsLatched Port.discard :=
  fun q => Port.latch_keepsLatched .linkError { q with discardCount := q.discardCount + 1 }

theorem Port.busyAnswer_keepsLatched (tag : Byte) : Port.KeepsLatched (Port.busyAnswer tag) := by
  intro q k latched
  unfold Port.busyAnswer
  split
  · exact latched
  · exact Port.discard_keepsLatched q k latched

/-- Nothing that reaches a port's receiver takes a kind from its latched set (R147 to R150). -/
theorem Port.line_keepsLatched (p : PortId) (now : Nat) (line : List LineEvent) :
    Port.KeepsLatched (Port.line p now line) := by
  have arrival : ∀ a, Port.KeepsLatched fun q => q.arrival p a := by
    intro a q k latched
    cases a with
    | nothing => exact latched
    | brokenOff => exact Port.discard_keepsLatched q k latched
    | whole bytes =>
      dsimp only [Port.arrival]
      split
      · unfold Port.goodFrame
        split
        · split <;> exact latched
        · exact Port.busyAnswer_keepsLatched _ q k latched
      · exact Port.discard_keepsLatched q k latched
  have event : ∀ e, Port.KeepsLatched fun q => q.lineEvent p now e := by
    intro e q k latched
    refine arrival _ _ k ?_
    split <;> exact latched
  have fold : ∀ es : List LineEvent, Port.KeepsLatched fun q => es.foldl (Port.lineEvent p now) q := by
    intro es
    induction es with
    | nil => exact .of_eq fun _ => rfl
    | cons e es ih => exact (event e).comp ih
  exact fun q => fold _ q

theorem Port.responseSent_keepsLatched : Port.KeepsLatched Port.responseSent := by
  intro q k latched
  unfold Port.responseSent
  split <;> exact latched

/-- From `s` to `t` the ports other than `p` change in their latched sets and their cursors of snapshots alone, and no port
loses a latched kind (R155, R174, R175). -/
structure OwnPort (p : PortId) (s t : State) : Prop where
  others : ∀ q : PortId, q ≠ p → t.ports[q] = { s.ports[q] with
    latched := t.ports[q].latched
    fastCursor := t.ports[q].fastCursor
    fullCursor := t.ports[q].fullCursor }
  latched : KeepsLatched s t

theorem OwnPort.of_ports {p : PortId} {s t : State} (ports : t.ports = s.ports) : OwnPort p s t :=
  ⟨fun q _ => by rw [ports], .of_ports ports⟩

theorem OwnPort.trans {p : PortId} {s t u : State} (h : OwnPort p s t) (h' : OwnPort p t u) : OwnPort p s u :=
  ⟨fun q hq => by rw [h'.others q hq, h.others q hq], h.latched.trans h'.latched⟩

theorem KeepsLatched.updPort (s : State) (p : PortId) {f : Port → Port} (h : Port.KeepsLatched f) :
    KeepsLatched s (s.updPort p f) := by
  intro q k latched
  by_cases e : q = p
  · subst e
    rw [State.updPort_self]
    exact h _ k latched
  · rwa [State.updPort_others s p f q e]

theorem KeepsLatched.updPorts (s : State) {f : PortId → Port → Port} (h : ∀ p, Port.KeepsLatched (f p)) :
    KeepsLatched s (s.updPorts f) := fun q k latched => by simpa using h q _ k latched

theorem KeepsLatched.latchAll (s : State) (k : Kind) : KeepsLatched s (s.latchAll k) :=
  (s.latchAll_raises k).keepsLatched

theorem OwnPort.updPort (s : State) (p : PortId) {f : Port → Port} (h : Port.KeepsLatched f) :
    OwnPort p s (s.updPort p f) :=
  ⟨fun q hq => by rw [State.updPort_others s p f q hq], .updPort s p h⟩

theorem OwnPort.setCursor (s : State) (p : PortId) (c : ProfileCursor) : OwnPort p s (s.setCursor p c) :=
  .updPort s p (.of_eq fun _ => rfl)

/-! ### What the owners of requests leave of the ports -/

theorem OwnPort.readRosterState (s : State) (p : PortId) : OwnPort p s (s.readRosterState p).1 :=
  .updPort s p (.of_eq fun _ => rfl)

theorem OwnPort.setMask (s : State) (p : PortId) (count : Byte) (kinds : List Byte) :
    OwnPort p s (s.setMask p count kinds).1 := by
  unfold State.setMask
  split
  · exact .updPort s p (.of_eq fun _ => rfl)
  · exact .of_ports rfl

theorem OwnPort.subscribe (s : State) (p : PortId) (kinds start count : Byte) (indices : List Byte) :
    OwnPort p s (s.subscribe p kinds start count indices).1 := by
  unfold State.subscribe
  split
  next ks oldest filter _ _ _ =>
    have own : OwnPort p s (s.updPort p fun q => q.subscribe s.table ks oldest filter) := .updPort s p (.of_eq fun _ => rfl)
    rwa [State.updPort_congr (g := fun _ => s.ports[p].subscribe s.table ks oldest filter) rfl] at own
  next => exact .of_ports rfl

theorem OwnPort.moveCursor (s : State) (p : PortId) (k : SnapKind) (n : Nat) :
    OwnPort p s (s.updPort p fun q => q.moveCursor k n) := .updPort s p (.of_eq fun _ => by cases k <;> rfl)

theorem OwnPort.readSnapshotNext (s : State) (p : PortId) (kind : Byte) : OwnPort p s (s.readSnapshotNext p kind).1 := by
  have next_ : ∀ k, OwnPort p s (s.readNext p k).1 := by
    intro k
    unfold State.readNext
    dsimp only
    split
    · exact .of_ports rfl
    split
    · exact .moveCursor s p k _
    split
    · split <;> exact .moveCursor s p k _
    · exact .moveCursor s p k _
  unfold State.readSnapshotNext
  split
  · exact .of_ports rfl
  split
  · exact next_ _
  · exact .of_ports rfl

theorem OwnPort.renewClaim (s : State) (p : PortId) : OwnPort p s (s.renewClaim p) := .of_ports (s.renewClaim_ports p)

theorem OwnPort.profileCursor (s : State) (p : PortId) (selector : Byte) (address : BitVec 16) (mode : Byte) :
    OwnPort p s (s.profileCursor p selector address mode).1 := by
  unfold State.profileCursor
  split
  · exact (OwnPort.renewClaim s p).trans (.setCursor _ p _)
  · exact .renewClaim s p

theorem OwnPort.profileGet (s : State) (p : PortId) (count : Byte) : OwnPort p s (s.profileGet p count).1 := by
  unfold State.profileGet
  dsimp only
  split
  · exact .renewClaim s p
  split
  · exact .renewClaim s p
  split
  · exact .renewClaim s p
  · exact (OwnPort.renewClaim s p).trans (.setCursor _ p _)

theorem OwnPort.profilePut (s : State) (p : PortId) (values : List Word) : OwnPort p s (s.profilePut p values).1 := by
  unfold State.profilePut
  split
  · dsimp only
    split
    · exact .of_ports rfl
    next b _ =>
      have written : OwnPort p s ((s.startClaim p).setStandby b) := .of_ports rfl
      exact written.trans (.setCursor _ p _)
  · exact .of_ports rfl

theorem OwnPort.commitNow (s : State) (p : PortId) : OwnPort p s (s.commitNow p).1 := by
  unfold State.commitNow
  split
  · exact .of_ports rfl
  split
  · exact .of_ports rfl
  split
  · exact .of_ports rfl
  · have ports : (((s.setClaim none).activate none none).enterAligningNow).ports =
        (s.latchAll .profileSwitched).ports := by simp
    have raised := s.latchAll_raises .profileSwitched
    refine ⟨fun q _ => ?_, fun q k latched => ?_⟩
    · rw [ports, (raised q).1]
    · rw [ports]
      exact raised.keepsLatched q k latched

theorem OwnPort.clearAlignment (s : State) (p : PortId) : OwnPort p s s.clearAlignment.1 := by
  have cleared : OwnPort p s s.tableClear.supervisorClear := .of_ports (by simp)
  refine cleared.trans ⟨fun q _ => ?_, KeepsLatched.updPorts _ fun _ => ?_⟩
  · simp [State.clearAlignment, Port.latch]
  · exact fun q => Port.latch_keepsLatched .tableCleared { q with
      fastCursor := s.table.nextFast
      fullCursor := s.table.nextFull }

/-! ### The owners that touch no port -/

section
variable (s : State)

theorem State.beginEdit_ports (p : PortId) : (s.beginEdit p).1.ports = s.ports := by
  unfold State.beginEdit
  repeat' split
  all_goals rfl

theorem State.abandonEdit_ports (p : PortId) : (s.abandonEdit p).1.ports = s.ports := by
  unfold State.abandonEdit
  split <;> rfl

theorem State.commitAtSecond_ports (p : PortId) (mode : Byte) (S : Nat) :
    (s.commitAtSecond p mode S).1.ports = s.ports := by
  unfold State.commitAtSecond State.refuseCommit
  repeat' split
  all_goals rfl

theorem State.cancelSwitch_ports : s.cancelSwitch.1.ports = s.ports := by
  unfold State.cancelSwitch
  split <;> rfl

theorem State.readSnapshotSequence_ports (p : PortId) (kind target : Byte) (n : Nat) :
    (s.readSnapshotSequence p kind target n).1.ports = s.ports := by
  unfold State.readSnapshotSequence
  repeat' split
  all_goals rfl

theorem State.readStreamDetail_ports (index : Byte) : (s.readStreamDetail index).1.ports = s.ports := by
  unfold State.readStreamDetail
  split <;> rfl

theorem State.releaseStream_ports (index : Byte) : (s.releaseStream index).1.ports = s.ports := by
  unfold State.releaseStream
  split
  · rfl
  split
  · exact State.updStream_ports _ _ _
  · rfl

theorem State.acceptReference_ports : s.acceptReference.1.ports = s.ports := by
  unfold State.acceptReference
  split <;> rfl

end

/-! ### Requests -/

/-- What a request command does, in the three situations of its port's handler (R149, R150). -/
theorem State.serve_cases (s : State) (c : Instr) (p : PortId) (tag : Byte) (owner : State → State × Reply) :
    s.serve c p tag owner = (s.updPort p (Port.takeInHand c)).answer p tag owner ∨
    s.serve c p tag owner = s.answer p tag owner ∨ s.serve c p tag owner = s.updPort p (Port.busyAnswer tag) := by
  unfold State.serve
  split
  · exact .inl rfl
  · split
    · exact .inr (.inl rfl)
    · exact .inr (.inr rfl)
  · exact .inr (.inr rfl)

/-- A request does to the ports what its owner does, and the rest to its own port alone. -/
theorem OwnPort.serve {p : PortId} {owner : State → State × Reply} (work : ∀ u, OwnPort p u (owner u).1) (s : State)
    (c : Instr) (tag : Byte) : OwnPort p s (s.serve c p tag owner) := by
  have answer (u : State) : OwnPort p u (u.answer p tag owner) :=
    (work u).trans (.updPort _ p (.of_eq fun _ => rfl))
  have takes : OwnPort p s (s.updPort p (Port.takeInHand c)) := .updPort s p (.of_eq fun _ => rfl)
  rcases s.serve_cases c p tag owner with e | e | e <;> rw [e]
  · exact takes.trans (answer _)
  · exact answer s
  · exact .updPort s p (Port.busyAnswer_keepsLatched tag)

theorem OtherPortsSame.trans {p : PortId} {s t u : State} (h : OtherPortsSame p s t) (h' : OtherPortsSame p t u) :
    OtherPortsSame p s u := fun q hq => (h' q hq).trans (h q hq)

/-- A request whose owner leaves every other port leaves every other port. -/
theorem OtherPortsSame.serve {p : PortId} {owner : State → State × Reply} (work : ∀ u, OtherPortsSame p u (owner u).1)
    (s : State) (c : Instr) (tag : Byte) : OtherPortsSame p s (s.serve c p tag owner) :=
  State.serve_preserves (P := OtherPortsSame p s) (fun u f _ same => same.trans (u.updPort_others p f))
    (fun u same => same.trans (work u)) (fun _ _ => rfl) c tag

theorem OtherPortsSame.portReset (s : State) (p : PortId) : OtherPortsSame p s (s.portReset p).1 := by
  have released : (if s.holds p then s.setClaim none else s).ports = s.ports := by split <;> rfl
  intro q hq
  rw [State.portReset, State.updPort_others _ p _ q hq, released]

/-- What the owner of request `c` of port `p` may do to the ports: READ CONDITIONS and PORT RESET what they like to port `p`,
every other request no more than raise conditions and move cursors elsewhere (R155, R156, R174, R176). -/
def OwnerReach (c : Instr) (p : PortId) (tag : Byte) (owner : State → State × Reply) : Prop :=
  (∀ u, OwnPort p u (owner u).1) ∨
  ((c = .readConditions p tag ∨ c = .portReset p tag) ∧ ∀ u, OtherPortsSame p u (owner u).1)

/-- Every request is served by an owner (R149), which reaches the ports no further than it may. -/
theorem exec_request {c : Instr} {p : PortId} {tag code : Byte} {payload : List Byte}
    (sent : encodeRequest c = some (p, tag, code, payload)) :
    ∃ owner, (∀ s, exec c s = serveStep c p tag owner s) ∧ OwnerReach c p tag owner := by
  have apart {owner : State → State × Reply} (run : ∀ s, exec c s = serveStep c p tag owner s)
      (ports : ∀ u, (owner u).1.ports = u.ports) :
      ∃ owner, (∀ s, exec c s = serveStep c p tag owner s) ∧ OwnerReach c p tag owner :=
    ⟨owner, run, .inl fun u => .of_ports (ports u)⟩
  cases c <;> cases sent
  case status => exact apart (fun _ => rfl) fun _ => rfl
  case readConditions => exact ⟨_, fun _ => rfl, .inr ⟨.inl rfl, fun u => u.updPort_others p _⟩⟩
  case setMask count kinds =>
    exact ⟨_, fun _ => rfl, .inl fun u => orMalformed_preserves (.of_ports rfl) (.setMask u p count kinds)⟩
  case subscribe kinds start count indices =>
    exact ⟨_, fun _ => rfl,
      .inl fun u => orMalformed_preserves (.of_ports rfl) (.subscribe u p kinds start count indices)⟩
  case readSnapshotNext kind unused => exact ⟨_, fun _ => rfl, .inl fun u => .readSnapshotNext u p kind⟩
  case readSnapshotSequence kind target seq =>
    exact apart (fun _ => rfl) fun u => u.readSnapshotSequence_ports p kind target seq.toNat
  case readRosterState => exact ⟨_, fun _ => rfl, .inl fun u => .readRosterState u p⟩
  case readStreamDetail index => exact apart (fun _ => rfl) fun u => u.readStreamDetail_ports index
  case readWorstLatency => exact apart (fun _ => rfl) fun _ => rfl
  case readLanes => exact apart (fun _ => rfl) fun _ => rfl
  case profileCursor selector address mode =>
    exact ⟨_, fun _ => rfl, .inl fun u => .profileCursor u p selector address mode⟩
  case profileGet count => exact ⟨_, fun _ => rfl, .inl fun u => .profileGet u p count⟩
  case profilePut values =>
    exact ⟨_, fun _ => rfl, .inl fun u => orMalformed_preserves (.of_ports rfl) (.profilePut u p values)⟩
  case beginEdit => exact apart (fun _ => rfl) fun u => u.beginEdit_ports p
  case abandonEdit => exact apart (fun _ => rfl) fun u => u.abandonEdit_ports p
  case commitSwitchAtSecond mode second => exact apart (fun _ => rfl) fun u => u.commitAtSecond_ports p mode second.toNat
  case commitSwitchNow ignored => exact ⟨_, fun _ => rfl, .inl fun u => .commitNow u p⟩
  case cancelSwitch => exact apart (fun _ => rfl) State.cancelSwitch_ports
  case streamCommand index action => exact apart (fun _ => rfl) fun u => u.streamCommand_ports p index action
  case releaseStream index => exact apart (fun _ => rfl) fun u => u.releaseStream_ports index
  case acceptReference => exact apart (fun _ => rfl) State.acceptReference_ports
  case clearAlignment => exact ⟨_, fun _ => rfl, .inl fun u => .clearAlignment u p⟩
  case portReset => exact ⟨_, fun _ => rfl, .inr ⟨.inr rfl, fun u => .portReset u p⟩⟩

/-- Settles O34: the frame decodes to the request, which is put in hand, and in hand it is served as from an IDLE handler. -/
theorem requestFrameTakenInHand : Obligations.RequestFrameTakenInHand := by
  unfold Obligations.RequestFrameTakenInHand
  intro s c p tag code payload serves hunting fits sent
  obtain ⟨on, idle⟩ := serves
  have length : payload.length ≤ 8192 := (fitsCode_encoded fits sent).length_le.trans (by decide)
  have taken : s.ports[p].goodFrame p tag code payload = s.ports[p].takeInHand c := by
    rw [Port.goodFrame, idle, decodeRequest_encoded fits sent]
  have leaves := (Port.line_frame hunting p s.timebase.elapsed tag code length).trans taken
  obtain ⟨owner, run, -⟩ := exec_request sent
  refine ⟨_, exec_requestFrameArrival_as on leaves, rfl, s.updPort_others p _, s.updPort_self p _, ?_⟩
  have inHand : (s.updPort p (Port.takeInHand c)).ports[p].handler = .inHand c := by
    rw [State.updPort_self]
    rfl
  rw [run, run, serveStep_idle ⟨on, idle⟩]
  exact serveStep_inHand (s := s.updPort p (Port.takeInHand c)) on c inHand tag owner

end Sys2Proof.Machine
end

section
/-! PROOFS. No event of the part takes a kind from a port's latched set, and what a request may do to another port (R155, R174,
R175). -/

namespace Sys2Proof.Machine

theorem KeepsLatched.refl (s : State) : KeepsLatched s s := .of_ports rfl

/-- A change that moves no port may follow what keeps the latched sets. -/
theorem KeepsLatched.and_same {s t u : State} (h : KeepsLatched s t) (ports : u.ports = t.ports) : KeepsLatched s u :=
  h.trans (.of_ports ports)

/-! ### The timebase -/

theorem KeepsLatched.enterTimeState (s : State) (st : TimeState) : KeepsLatched s (s.enterTimeState st) :=
  (s.enterTimeState_raises st).keepsLatched

theorem KeepsLatched.correct (s : State) (x : Nat) (e : Int) (w : Bool) : KeepsLatched s (s.correct x e w) := by
  unfold State.correct
  split
  · exact .refl s
  split
  · exact .of_ports rfl
  split
  · exact (s.stepTo_latched x).1
  · exact (s.beginPause_notice _ w).2.keepsLatched

theorem KeepsLatched.applyUnset (s : State) (x : Nat) : KeepsLatched s ((s.notePps x).applyUnset x) := by
  rw [State.applyUnset_eq]
  exact ((s.lockedUnset_raises x).keepsLatched.trans (State.takeSecond_keepsLatched _ x)).trans
    (State.epochBoundary_keepsLatched _)

theorem KeepsLatched.applyError (s : State) (x : Nat) (e : Int) : KeepsLatched s (s.applyError x e) := by
  have stopped : KeepsLatched s (s.setCorrection .none) := .of_ports rfl
  unfold State.applyError
  split
  · exact (stopped.trans (.enterTimeState _ .rejected)).and_same rfl
  · have locked : KeepsLatched s ((s.setCorrection .none).lock.settleAcceptance e) :=
      (stopped.trans (.enterTimeState _ .locked)).and_same rfl
    exact locked.trans (.correct _ x e _)

theorem KeepsLatched.ppsEdge (s : State) : KeepsLatched s s.ppsEdge := by
  unfold State.ppsEdge
  split
  · exact .refl s
  next a _ =>
    have noted : KeepsLatched s (s.notePps a.1) := .of_ports rfl
    dsimp only
    split
    · split
      · exact .applyUnset s a.1
      · exact noted.trans (.applyError _ _ _)
    · exact noted

theorem KeepsLatched.ppsLoss (s : State) : KeepsLatched s s.ppsLoss := by
  unfold State.ppsLoss
  split
  · exact (KeepsLatched.enterTimeState s .holdover).and_same rfl
  · exact .refl s

theorem KeepsLatched.holdoverEnd (s : State) : KeepsLatched s s.holdoverEnd := by
  unfold State.holdoverEnd
  split
  · exact (KeepsLatched.enterTimeState s .drifting).and_same rfl
  · exact .refl s

/-! ### The lanes -/

theorem KeepsLatched.laneLine (s : State) (l : LaneId) (line : List LineEvent) : KeepsLatched s (s.laneLine l line) := by
  have arrival : ∀ (u : State) a, KeepsLatched u (u.laneArrival l a) := by
    intro u a
    cases a with
    | nothing => exact .refl u
    | brokenOff => exact (u.discardLaneFrame_spec l).2.keepsLatched
    | whole bytes =>
      dsimp only [State.laneArrival]
      split
      · exact (u.validLaneFrame_spec l _).2.keepsLatched
      · exact (u.discardLaneFrame_spec l).2.keepsLatched
  have fold : ∀ (es : List LineEvent) (u : State), KeepsLatched u (es.foldl (fun u e => u.laneEvent l e) u) := by
    intro es
    induction es with
    | nil => exact .refl
    | cons e es ih => exact fun u => ((KeepsLatched.of_ports rfl).trans (arrival (u.updLane l _) _)).trans (ih _)
  exact fold _ s

theorem KeepsLatched.laneSilence (s : State) (l : LaneId) : KeepsLatched s (s.laneSilence l) := by
  unfold State.laneSilence
  split
  · exact (KeepsLatched.of_ports (State.updLane_ports s l _)).trans (.latchAll _ _)
  · exact .refl s

/-! ### The intake and the relay -/

theorem KeepsLatched.handOutcome (s : State) (p : PortId) (o : CommandOutcome) : KeepsLatched s (s.handOutcome p o) :=
  .updPort s p fun q => Port.latch_keepsLatched .commandDone { q with outcome := some o }

theorem KeepsLatched.timeOutCommand (s : State) (i : StreamId) (c : CommandSlot) : KeepsLatched s (s.timeOutCommand i c) :=
  (KeepsLatched.of_ports (s.setCommand_ports i none)).trans (.handOutcome _ _ _)

theorem KeepsLatched.faultReport (s : State) (i : StreamId) (k : FaultKind) : KeepsLatched s (s.faultReport i k) :=
  (s.faultReport_raises i k).keepsLatched

theorem KeepsLatched.applyPlacement (s : State) (pl : Placement) : KeepsLatched s (s.applyPlacement pl) := by
  cases pl with
  | dropped => exact .refl s
  | unknownSource => exact .latchAll s _
  | fault sup k =>
    cases sup with
    | none => exact .refl s
    | some i => exact .faultReport s i k
  | placed r => exact .of_ports rfl

theorem KeepsLatched.arbiterTake (s : State) : KeepsLatched s s.arbiterTake := by
  have completed : ∀ (u : State) i c r arrival, KeepsLatched u (u.completeCommand i c r arrival) := by
    intro u i c r arrival
    rw [State.completeCommand_eq]
    refine KeepsLatched.trans (.of_ports ?_) (.handOutcome _ _ _)
    split <;> simp
  have routed : ∀ (u : State) item, KeepsLatched u (u.routeItem item) := by
    intro u item
    unfold State.routeItem
    split
    · unfold State.acknowledge
      split
      · exact completed u _ _ _ _
      · exact .refl u
    · split
      · exact .applyPlacement u _
      · exact .refl u
  unfold State.arbiterTake
  split
  · exact (KeepsLatched.of_ports (s.dequeue_ports _ _)).trans (routed _ _)
  · exact .refl s

theorem KeepsLatched.takeNew (s : State) (r : PlacedRecord) : KeepsLatched s (s.takeNew r).1 := by
  have first : ∀ (b : Bool) (c : EpochKey), KeepsLatched s (if b then s.openSlot c else (s, false)).1 := by
    intro b c
    split
    · exact s.openSlot_keepsLatched c
    · exact .refl s
  unfold State.takeNew
  split
  · exact .refl s
  next c _ =>
    split
    · exact .refl s
    split
    · exact .refl s
    split
    · exact .refl s
    split
    · dsimp only
      split
      · exact (s.openSlot_keepsLatched c).and_same (by simp)
      · exact s.openSlot_keepsLatched c
    · dsimp only
      generalize hf :
        (if (opens s.table.horizon c && (s.table.find c).isNone) = true then s.openSlot c else (s, false)) = o
      have opened : KeepsLatched s (o.1.openSlot r.key).1 :=
        (hf ▸ first _ c : KeepsLatched s o.1).trans (o.1.openSlot_keepsLatched r.key)
      split
      · split
        · exact opened.and_same (by simp)
        · exact opened.and_same (by simp)
      · exact .refl s

theorem KeepsLatched.takeRecord (s : State) (r : PlacedRecord) : KeepsLatched s (s.takeRecord r).1 := by
  unfold State.takeRecord
  split
  · exact .takeNew s r
  split
  · exact .refl s
  split
  · exact .refl s
  split
  · split
    · exact .refl s
    · have marked : KeepsLatched s
          ({ s with table := s.table.modify r.key (Slot.markConflict r.stream) }.latchAll .conflict) :=
        (s.noteConflict_raises r).keepsLatched
      dsimp only
      split
      · exact marked.trans (.faultReport _ _ _)
      · exact marked
  · exact .of_ports (s.storeRecord_ports r)

theorem KeepsLatched.tableTake (s : State) : KeepsLatched s s.tableTake := by
  unfold State.tableTake
  split
  · exact .refl s
  next r _ =>
    refine (KeepsLatched.takeRecord s r).and_same ?_
    dsimp only
    split
    · exact State.acceptance_ports _ _ _ _ _
    · rfl

/-! ### The claim -/

theorem KeepsLatched.claimExpiry (s : State) : KeepsLatched s s.claimExpiry := by
  unfold State.claimExpiry
  split
  · split
    · exact (KeepsLatched.of_ports (s.setClaim_ports none)).trans (.updPort _ _ (Port.latch_keepsLatched _))
    · exact .refl s
  · exact .refl s

/-! ### Every command -/

/-- No event of the part, short of a reset, takes a kind from a port's latched set (R174, R175). -/
theorem event_keepsLatched {c : Instr} {s t : State} (event : encodeRequest c = none) (running : Instr.isReset c = false)
    (ht : exec c s = .next t) : KeepsLatched s t := by
  have after {f : State → State}
      (ht : Host.Outcome.next (s.whileOperating f) = (.next t : Host.Outcome State Fault Refusal))
      (kept : KeepsLatched s (f s)) : KeepsLatched s t :=
    Host.Outcome.next.inj ht ▸ State.whileOperating_preserves (.refl s) kept
  cases c with
  | powerOn | supplyBelowLimit | resetLine => cases running
  | powerOnExit | resetLineRelease =>
    obtain rfl := Host.Outcome.next.inj ht
    refine .of_ports ?_
    split <;> rfl
  | timeMessage line => exact after ht (.of_ports (s.timeLine_ports line))
  | ppsEdge => exact after ht (.ppsEdge s)
  | ppsLossTimerExpiry => exact after ht (.ppsLoss s)
  | holdoverLimitExpiry => exact after ht (.holdoverEnd s)
  | slewEnd => exact after ht (.of_ports (by simp))
  | pauseEnd => exact after ht (.of_ports (by simp))
  | secondBoundary => exact after ht s.takeDueSecond_keepsLatched
  | epochBoundary =>
    refine after ht ?_
    split
    · exact .refl s
    · exact s.epochBoundary_keepsLatched
  | fastDeadlineExpiry e => exact after ht (.of_ports (s.fastDeadline_ports e))
  | fullDeadlineExpiry e => exact after ht (.of_ports (s.fullDeadline_ports e))
  | drainingEnd => exact after ht (.of_ports s.endDraining_ports)
  | laneFrameArrival l line => exact after ht (.laneLine s l line)
  | laneSilenceTimerExpiry l => exact after ht (.laneSilence s l)
  | commandFrameSent l => exact after ht (.of_ports (s.updLane_ports l _))
  | arbiterTake => exact after ht (.arbiterTake s)
  | tableTakeRecord => exact after ht (.tableTake s)
  | commandTimeout i =>
    refine after ht ?_
    split
    · split
      · exact .timeOutCommand s i _
      · exact .refl s
    · exact .refl s
  | streamSilenceTimerExpiry i | quietTimerExpiry i =>
    refine after ht ?_
    split
    · exact .of_ports (s.updStream_ports i _)
    · exact .refl s
  | claimTimerExpiry => exact after ht (.claimExpiry s)
  | requestFrameArrival p line => exact after ht (.updPort s p (Port.line_keepsLatched p _ line))
  | responseSent p => exact after ht (.updPort s p Port.responseSent_keepsLatched)
  | _ => cases event

/-- What a request of port `p` leaves of the ports: it reaches no other port but by conditions and cursors, and takes no kind
from a latched set; only READ CONDITIONS and PORT RESET may, at `p`, and they leave every other port as it is. -/
theorem request_reach {c : Instr} {p : PortId} {tag code : Byte} {payload : List Byte} {s t : State}
    (sent : encodeRequest c = some (p, tag, code, payload)) (ht : exec c s = .next t) :
    OwnPort p s t ∨ ((c = .readConditions p tag ∨ c = .portReset p tag) ∧ OtherPortsSame p s t) := by
  obtain ⟨owner, run, reach⟩ := exec_request sent
  obtain rfl := Host.Outcome.next.inj ((run s).symm.trans ht)
  obtain work | ⟨clears, work⟩ := reach
  · exact .inl (State.whileOperating_preserves (.of_ports rfl) (.serve work s c tag))
  · exact .inr ⟨clears, State.whileOperating_preserves (fun _ _ => rfl) (.serve work s c tag)⟩

/-- Settles O60: a request by the reach of its owner, and an event by the conditions it raises. -/
theorem conditionsBelongToThePort : Obligations.ConditionsBelongToThePort := by
  unfold Obligations.ConditionsBelongToThePort
  intro c s t q ht
  refine ⟨fun p tag code payload sent other => ?_, fun running reads resets k latched => ?_⟩
  · obtain own | ⟨-, same⟩ := request_reach sent ht
    · exact own.others q other.symm
    · rw [same q other.symm]
  · match sent : encodeRequest c with
    | none => exact event_keepsLatched sent running ht q k latched
    | some (p, tag, code, payload) =>
      obtain own | ⟨clears, same⟩ := request_reach sent ht
      · exact own.latched q k latched
      · have other : q ≠ p := by
          rintro rfl
          exact clears.elim (reads tag) (resets tag)
        rwa [same q other]

end Sys2Proof.Machine
end

section
/-! PROOFS. The views of a slot, the retained numbers, and READ SNAPSHOT and SUBSCRIBE (R83, R159 to R170). -/

namespace Sys2Proof.Machine

/-! ### The terms of the model and those of the statements -/

theorem Slot.seq_eq (sl : Slot) (k : SnapKind) : sl.seq k = (cutOf k sl).map Cut.seq := by
  cases k <;> rfl

theorem AlignTable.next_eq (t : AlignTable) (k : SnapKind) : t.next k = nextOf k t := by
  cases k <;> rfl

theorem Port.snapCursor_eq (q : Port) (k : SnapKind) : q.snapCursor k = cursorOf k q := by
  cases k <;> rfl

theorem Port.subscribed_eq (q : Port) (k : SnapKind) : q.subscribed k = subscribedTo k q := by
  cases k <;> rfl

theorem Port.moveCursor_eq (q : Port) (k : SnapKind) (n : Nat) : q.moveCursor k n = cursorAt k n q := by
  cases k <;> rfl

theorem SnapKind.shows_eq (k : SnapKind) (e : Entry) : k.shows e = visible k e := by
  cases k <;> rfl

theorem SnapKind.showsConflict_eq (k : SnapKind) (e : Entry) : k.showsConflict e = conflicted k e := by
  cases k <;> rfl

/-! ### The bytes that name a kind of snapshot (R190) -/

theorem decodeSnapKind_kindByte (k : SnapKind) : decodeSnapKind (kindByte k) = some k := by
  cases k <;> rfl

theorem decodeSnapKind_none {b : Byte} (past : 1 < b.toNat) : decodeSnapKind b = none := by
  unfold decodeSnapKind
  rw [if_neg (by rintro rfl; simp at past), if_neg (by rintro rfl; simp at past)]

/-! ### The retained numbers (R83) -/

theorem RunUpTo.nodup {next : Nat} {l : List Nat} (h : RunUpTo next l) : l.Nodup := by
  obtain ⟨n, -, rfl⟩ := h
  exact List.nodup_range'

/-- A run holds the numbers from its first up to the one before the next. -/
theorem RunUpTo.mem_iff {next o n : Nat} {l : List Nat} (h : RunUpTo next l) (first : l.head? = some o) :
    n ∈ l ↔ o ≤ n ∧ n < next := by
  obtain ⟨m, lt, rfl⟩ := h
  rw [List.head?_range'] at first
  split at first
  next => cases first
  next =>
    obtain rfl := Option.some.inj first
    rw [List.mem_range'_1]
    omega

/-- In a list whose images under a partial function are distinct, one image is one member's. -/
theorem eq_of_filterMap_nodup {α β : Type} {f : α → Option β} {l : List α} (distinct : (l.filterMap f).Nodup) {x y : α}
    {b : β} (hx : x ∈ l) (hy : y ∈ l) (fx : f x = some b) (fy : f y = some b) : x = y := by
  have : Std.Symm fun a a' : α => ∀ b, f a = some b → ∀ b', f a' = some b' → b ≠ b' :=
    ⟨fun _ _ apart c hc c' hc' => (apart c' hc' c hc).symm⟩
  by_contra differ
  exact (List.pairwise_filterMap.mp distinct).forall hx hy differ b fx b fy rfl

theorem AlignTable.Laws.run {t : AlignTable} (h : t.Laws) (k : SnapKind) : RunUpTo (nextOf k t) (numbersOf k t) := by
  cases k with
  | fast => exact h.fastRun
  | full => exact h.fullRun

/-- The slot found under a number is one of the table's, with the cut of that number. -/
theorem AlignTable.retained_some {t : AlignTable} {k : SnapKind} {n : Nat} {sl : Slot}
    (found : t.retained k n = some sl) : sl ∈ t.slots ∧ (cutOf k sl).map Cut.seq = some n := by
  refine ⟨List.mem_of_find?_eq_some found, ?_⟩
  rw [← sl.seq_eq]
  simpa using List.find?_some found

/-- No slot is found under a number exactly when the number is not retained. -/
theorem AlignTable.retained_none {t : AlignTable} {k : SnapKind} {n : Nat} :
    t.retained k n = none ↔ n ∉ numbersOf k t := by
  simp only [AlignTable.retained, numbersOf, List.find?_eq_none, List.mem_filterMap, Slot.seq_eq, beq_iff_eq,
    not_exists, not_and]

/-- A slot is found under the number of its cut: the retained numbers are distinct. -/
theorem AlignTable.Laws.retained_of_mem {t : AlignTable} (h : t.Laws) {k : SnapKind} {n : Nat} {sl : Slot}
    (mem : sl ∈ t.slots) (cut : (cutOf k sl).map Cut.seq = some n) : t.retained k n = some sl := by
  cases found : t.retained k n with
  | none => exact absurd (List.mem_filterMap.mpr ⟨sl, mem, cut⟩) (AlignTable.retained_none.mp found)
  | some other =>
    obtain ⟨mem', cut'⟩ := AlignTable.retained_some found
    rw [eq_of_filterMap_nodup (h.run k).nodup mem mem' cut cut']

/-- A retained number is that of a slot. -/
theorem AlignTable.retained_of_number {t : AlignTable} {k : SnapKind} {n : Nat} (mem : n ∈ numbersOf k t) :
    ∃ sl, t.retained k n = some sl :=
  Option.ne_none_iff_exists'.mp fun none => AlignTable.retained_none.mp none mem

/-! ### The view of a slot -/

/-- The entry that a view shows for a stream is its visible entry (R167). -/
theorem Slot.shown_eq_some {sl : Slot} {k : SnapKind} {i : StreamId} {e : Entry} :
    sl.shown k i = some e ↔ sl.entries[i] = some e ∧ visible k e = true := by
  rw [Slot.shown, Option.filter_eq_some_iff, SnapKind.shows_eq]

theorem Slot.shown_eq_none {sl : Slot} {k : SnapKind} {i : StreamId} :
    sl.shown k i = none ↔ ∀ e, sl.entries[i] = some e → visible k e = false := by
  simp only [Slot.shown, Option.filter_eq_none_iff, SnapKind.shows_eq, Bool.not_eq_true]

theorem Slot.shown_isSome (sl : Slot) (k : SnapKind) (i : StreamId) :
    (sl.shown k i).isSome = (sl.entries[i]).any (visible k) := by
  rw [Slot.shown, Option.isSome_filter]
  exact congrArg (fun shows => (sl.entries[i]).any shows) (funext k.shows_eq)

/-- The form of an item, by whether the view shows an entry for the stream (R169). -/
theorem Slot.item_form (sl : Slot) (k : SnapKind) (i : StreamId) :
    (∀ e, sl.entries[i] = some e → visible k e = true → (sl.item k i).form =
      .entry (decide (i ∈ sl.expected)) (decide (i ∈ sl.gating)) e.late (conflicted k e) e) ∧
    ((∀ e, sl.entries[i] = some e → visible k e = false) → (sl.item k i).form =
      if i ∈ sl.expected then .missing (decide (i ∈ sl.gating)) else .notExpected) := by
  refine ⟨fun e held seen => ?_, fun hidden => ?_⟩
  · simp [Slot.item, Slot.shown_eq_some.mpr ⟨held, seen⟩, SnapKind.showsConflict_eq]
  · simp [Slot.item, Slot.shown_eq_none.mpr hidden]

/-- The cause of a cut is the cause its slot reports (R168). -/
theorem Slot.cause_eq {sl : Slot} {k : SnapKind} {cut : Cut} (held : cutOf k sl = some cut) : sl.cause k = cut.cause := by
  cases k with
  | fast => exact congrArg (fun c => (Option.map Cut.cause c).getD .deadline) held
  | full => exact congrArg (fun c => (Option.map Cut.cause c).getD .deadline) held

/-- The view of a slot under the number of its cut is the snapshot delivered (R162, R168 to R170). -/
theorem Slot.view_delivers {sl : Slot} {k : SnapKind} {n : Nat} (number : (cutOf k sl).map Cut.seq = some n)
    (skipped : Nat) (filter : List StreamId) : Delivers k sl skipped filter (sl.view k n skipped filter) := by
  have streams : (sl.view k n skipped filter).items.map SnapItem.stream =
      allStreams.filter fun i => filter.contains i && sl.enabled.contains i := by
    rw [Slot.view, List.map_map]
    exact List.map_id _
  refine ⟨⟨rfl, fun cut held => ⟨?_, Slot.cause_eq held⟩, rfl, rfl, rfl, rfl, rfl, rfl, ?_, rfl⟩, ?_, fun i => ?_,
    fun it mem => ?_⟩
  · rw [held] at number
    exact (Option.some.inj number).symm
  · exact List.countP_congr fun i _ => by rw [sl.shown_isSome]
  · rw [streams]
    exact (List.pairwise_lt_finRange 48).filter _
  · rw [streams]
    simp [allStreams]
  · obtain ⟨i, -, rfl⟩ := List.mem_map.mp mem
    exact sl.item_form k i

/-! ### What a port keeps of its reading while a request is taken -/

/-- The taking of a request touches nothing of what a port keeps of its reading (R149, R159). -/
theorem State.takeInHand_reading (s : State) (p : PortId) (c : Instr) (k : SnapKind) :
    subscribedTo k (s.updPort p (Port.takeInHand c)).ports[p] = subscribedTo k s.ports[p] ∧
    cursorOf k (s.updPort p (Port.takeInHand c)).ports[p] = cursorOf k s.ports[p] ∧
    (s.updPort p (Port.takeInHand c)).ports[p].filter = s.ports[p].filter := by
  have port : (s.updPort p (Port.takeInHand c)).ports[p] = Port.takeInHand c s.ports[p] := by simp
  rw [port]
  cases k <;> exact ⟨rfl, rfl, rfl⟩

theorem Port.takeInHand_cursorAt (k : SnapKind) (n : Nat) (c : Instr) (q : Port) :
    cursorAt k n (Port.takeInHand c q) = Port.takeInHand c (cursorAt k n q) := by
  cases k <;> rfl

/-! ### READ SNAPSHOT by number -/

/-- A number not yet issued (R165). -/
theorem State.readSnapshotSequence_notYet {s : State} (p : PortId) {k : SnapKind} {n : Nat}
    (above : nextOf k s.table ≤ n) : s.readSnapshotSequence p (kindByte k) 1 n = (s, .bare .notYet) := by
  simp [State.readSnapshotSequence, decodeSnapKind_kindByte, AlignTable.next_eq, above]

/-- A number issued and no longer retained (R165). -/
theorem State.readSnapshotSequence_expired {s : State} (p : PortId) {k : SnapKind} {n : Nat}
    (below : n < nextOf k s.table) (absent : n ∉ numbersOf k s.table) :
    s.readSnapshotSequence p (kindByte k) 1 n =
      (s, { code := .expired, result := .oldest ((numbersOf k s.table).head?.getD (nextOf k s.table)) }) := by
  simp [State.readSnapshotSequence, decodeSnapKind_kindByte, AlignTable.next_eq, AlignTable.oldest_eq, below,
    AlignTable.retained_none.mpr absent]

/-- The number of a slot's cut: the slot through its view (R165). -/
theorem State.readSnapshotSequence_delivers {s : State} (laws : s.table.Laws) (p : PortId) {k : SnapKind} {n : Nat}
    {sl : Slot} (mem : sl ∈ s.table.slots) (number : (cutOf k sl).map Cut.seq = some n) :
    s.readSnapshotSequence p (kindByte k) 1 n = (s, .ok (.snapshot (sl.view k n 0 s.ports[p].filter))) := by
  have below : n < nextOf k s.table := (laws.run k).lt (List.mem_filterMap.mpr ⟨sl, mem, number⟩)
  simp [State.readSnapshotSequence, decodeSnapKind_kindByte, AlignTable.next_eq, below,
    laws.retained_of_mem mem number]

/-- A kind or a target that names nothing (R163). -/
theorem State.readSnapshotSequence_invalid (s : State) (p : PortId) {kind target : Byte} (n : Nat)
    (bad : 1 < kind.toNat ∨ target ≠ 1) : s.readSnapshotSequence p kind target n = (s, .bare .invalid) := by
  unfold State.readSnapshotSequence
  split
  next => rfl
  next k named =>
    obtain past | target := bad
    · rw [decodeSnapKind_none past] at named
      cases named
    · exact if_pos target

/-- Settles O42: the retained slot through its view, or the answer for a number that is not retained. -/
theorem readSequenceDelivers : Obligations.ReadSequenceDelivers := by
  unfold Obligations.ReadSequenceDelivers
  intro s p tag seq serves inv
  have laws := ((tableInv_iff s).mp inv).1
  refine ⟨fun kind target _ bad => ?_,
    fun k => ⟨fun above => ?_, fun below absent => ?_, fun sl mem cut held number => ?_⟩⟩
  · exact serveStep_refuses serves _ tag (fun u => u.readSnapshotSequence p kind target seq.toNat) .invalid
      (State.readSnapshotSequence_invalid _ p _ bad)
  · exact serveStep_refuses serves _ tag (fun u => u.readSnapshotSequence p (kindByte k) 1 seq.toNat) .notYet
      (State.readSnapshotSequence_notYet p above)
  · exact serveStep_readOnly serves _ tag (fun u => u.readSnapshotSequence p (kindByte k) 1 seq.toNat) _
      (State.readSnapshotSequence_expired p below absent)
  · have number : (cutOf k sl).map Cut.seq = some seq.toNat := by rw [held, ← number, Option.map_some]
    obtain ⟨-, -, filter⟩ := s.takeInHand_reading p (.readSnapshotSequence p tag (kindByte k) 1 seq) k
    have delivers := State.readSnapshotSequence_delivers
      (s := s.updPort p (Port.takeInHand (.readSnapshotSequence p tag (kindByte k) 1 seq))) laws p mem number
    rw [filter] at delivers
    obtain ⟨t, run, frame, answer⟩ := serveStep_readOnly serves _ tag
      (fun u => u.readSnapshotSequence p (kindByte k) 1 seq.toNat) _ delivers
    exact ⟨t, _, run, frame, answer, Slot.view_delivers number 0 _⟩

/-! ### READ SNAPSHOT NEXT -/

/-- Nothing is issued yet at the cursor (R164). -/
theorem State.readNext_notYet {s : State} {p : PortId} {k : SnapKind}
    (above : nextOf k s.table ≤ cursorOf k s.ports[p]) : s.readNext p k = (s, .bare .notYet) := by
  simp only [State.readNext, Port.snapCursor_eq, AlignTable.next_eq]
  exact if_pos above

/-- An empty run: EXPIRED, and the cursor moves to the next number (R164). -/
theorem State.readNext_expired {s : State} {p : PortId} {k : SnapKind}
    (below : cursorOf k s.ports[p] < nextOf k s.table) (empty : numbersOf k s.table = []) : s.readNext p k =
      (s.updPort p (cursorAt k (nextOf k s.table)), { code := .expired, result := .oldest (nextOf k s.table) }) := by
  have absent : s.table.retained k (cursorOf k s.ports[p]) = none := AlignTable.retained_none.mpr (by simp [empty])
  simp only [State.readNext, Port.snapCursor_eq, Port.moveCursor_eq, AlignTable.next_eq, AlignTable.oldest_eq]
  rw [if_neg (by omega), absent, empty]
  rfl

/-- With a run and a cursor below the next number, READ SNAPSHOT NEXT delivers the later of the number at the cursor and
the oldest one, counts what it skips, and moves the cursor past it (R164). -/
theorem State.readNext_delivers {s : State} (laws : s.table.Laws) (p : PortId) {k : SnapKind} {o : Nat}
    (below : cursorOf k s.ports[p] < nextOf k s.table) (oldest : (numbersOf k s.table).head? = some o) :
    ∃ sl ∈ s.table.slots, (cutOf k sl).map Cut.seq = some (max (cursorOf k s.ports[p]) o) ∧
      s.readNext p k = (s.updPort p (cursorAt k (max (cursorOf k s.ports[p]) o + 1)),
        .ok (.snapshot (sl.view k (max (cursorOf k s.ports[p]) o) (o - cursorOf k s.ports[p]) s.ports[p].filter))) := by
  have run := laws.run k
  simp only [State.readNext, Port.snapCursor_eq, Port.moveCursor_eq, AlignTable.next_eq, AlignTable.oldest_eq]
  rw [if_neg (by omega)]
  generalize cursorOf k s.ports[p] = c at below ⊢
  by_cases retained : o ≤ c
  · obtain ⟨sl, found⟩ := AlignTable.retained_of_number ((run.mem_iff oldest).mpr ⟨retained, below⟩)
    obtain ⟨mem, cut⟩ := AlignTable.retained_some found
    rw [Nat.max_eq_left retained, Nat.sub_eq_zero_of_le retained, found]
    exact ⟨sl, mem, cut, rfl⟩
  · have absent : s.table.retained k c = none :=
      AlignTable.retained_none.mpr fun mem => retained ((run.mem_iff oldest).mp mem).1
    obtain ⟨sl, found⟩ := AlignTable.retained_of_number (List.mem_of_head? oldest)
    obtain ⟨mem, cut⟩ := AlignTable.retained_some found
    rw [Nat.max_eq_right (by omega), absent, oldest]
    dsimp only
    rw [found]
    exact ⟨sl, mem, cut, rfl⟩

theorem State.readSnapshotNext_invalid (s : State) (p : PortId) {kind : Byte} (past : 1 < kind.toNat) :
    s.readSnapshotNext p kind = (s, .bare .invalid) := by
  rw [State.readSnapshotNext, decodeSnapKind_none past]

/-- A kind that is named is read when the port is subscribed to it (R163). -/
theorem State.readSnapshotNext_eq (s : State) (p : PortId) (k : SnapKind) : s.readSnapshotNext p (kindByte k) =
    if subscribedTo k s.ports[p] = true then s.readNext p k else (s, .bare .state) := by
  rw [State.readSnapshotNext, decodeSnapKind_kindByte]
  simp only [Port.subscribed_eq]

/-- Settles O41: the rows of R164, by the cursor and the run of retained numbers. -/
theorem readNextFollowsCursor : Obligations.ReadNextFollowsCursor := by
  unfold Obligations.ReadNextFollowsCursor
  intro s p tag kind unused serves inv
  have laws := ((tableInv_iff s).mp inv).1
  refine ⟨fun past => ?_, fun k => ?_⟩
  · exact serveStep_refuses serves _ tag (fun u => u.readSnapshotNext p kind) .invalid
      (State.readSnapshotNext_invalid _ p past)
  obtain ⟨sub, cursor, filter⟩ := s.takeInHand_reading p (.readSnapshotNext p tag (kindByte k) unused) k
  have read := (s.updPort p (Port.takeInHand (.readSnapshotNext p tag (kindByte k) unused))).readSnapshotNext_eq p k
  rw [sub] at read
  refine ⟨fun off => ?_, fun on level => ?_, fun on below => ⟨fun empty => ?_, fun o oldest => ?_⟩⟩
  · exact serveStep_refuses serves _ tag (fun u => u.readSnapshotNext p (kindByte k)) .state
      (read.trans (if_neg (Bool.eq_false_iff.mp off)))
  all_goals rw [if_pos on] at read
  · exact serveStep_refuses serves _ tag (fun u => u.readSnapshotNext p (kindByte k)) .notYet
      (read.trans (State.readNext_notYet (cursor.trans level).ge))
  · exact serveStep_updPort serves _ tag (owner := fun u => u.readSnapshotNext p (kindByte k))
      (read.trans (State.readNext_expired (cursor.trans_lt below) empty)) (Port.takeInHand_cursorAt k _ _)
  · obtain ⟨sl, mem, number, delivers⟩ := State.readNext_delivers
      (s := s.updPort p (Port.takeInHand (.readSnapshotNext p tag (kindByte k) unused))) laws p (cursor.trans_lt below)
      oldest
    rw [cursor, filter] at delivers
    rw [cursor] at number
    obtain ⟨t, run, frame, answer⟩ := serveStep_updPort serves _ tag
      (owner := fun u => u.readSnapshotNext p (kindByte k)) (read.trans delivers) (Port.takeInHand_cursorAt k _ _)
    exact ⟨t, _, _, sl, mem, run, frame, rfl, rfl, number, _, answer, Slot.view_delivers number _ _⟩

/-! ### SUBSCRIBE -/

/-- A byte that names kinds of subscription names the kinds whose bits it has (R190). -/
theorem decodeSubscription_some {b : Byte} (named : b.toNat ≤ 3) :
    decodeSubscription b = some (b == 1 || b == 3, b == 2 || b == 3) := by
  obtain rfl | rfl | rfl | rfl : b = 0 ∨ b = 1 ∨ b = 2 ∨ b = 3 := by bv_omega
  all_goals rfl

theorem decodeSubscription_none {b : Byte} (past : 3 < b.toNat) : decodeSubscription b = none := by
  unfold decodeSubscription
  rw [if_neg (by rintro rfl; simp at past), if_neg (by rintro rfl; simp at past), if_neg (by rintro rfl; simp at past),
    if_neg (by rintro rfl; simp at past)]

/-- The start modes are FROM_NOW, 0, and FROM_OLDEST, 1 (R190). -/
theorem decodeFromOldest_some {b : Byte} (named : b.toNat ≤ 1) : decodeFromOldest b = some (decide (b ≠ 0)) := by
  obtain rfl | rfl : b = 0 ∨ b = 1 := by bv_omega
  all_goals rfl

theorem decodeFromOldest_none {b : Byte} (past : 1 < b.toNat) : decodeFromOldest b = none := by
  unfold decodeFromOldest
  rw [if_neg (by rintro rfl; simp at past), if_neg (by rintro rfl; simp at past)]

/-- The streams whose indices stand in a list, in increasing order (R160). -/
def streamsNamed (used : List Byte) : List StreamId := allStreams.filter fun i => used.contains (BitVec.ofNat 8 i.val)

theorem mem_streamsNamed (used : List Byte) (i : StreamId) : i ∈ streamsNamed used ↔ BitVec.ofNat 8 i.val ∈ used := by
  simp [streamsNamed, allStreams]

theorem streamsNamed_nodup (used : List Byte) : (streamsNamed used).Nodup := (List.nodup_finRange 48).filter _

/-- The filter that SUBSCRIBE carries, by the three conditions of R160 and R189. -/
theorem decodeFilter_eq (count : Byte) (indices : List Byte) : decodeFilter count indices =
    if count.toNat ≤ 48 ∧ (∀ c ∈ indices.take count.toNat, c.toNat < 48) ∧ (indices.take count.toNat).Nodup then
      some (streamsNamed (indices.take count.toNat)) else none := by
  simp [decodeFilter, noRepeat_iff, and_assoc, streamsNamed]

/-- The cursor of a kind after a SUBSCRIBE, by the start mode's byte (R160, R161). -/
theorem AlignTable.cursorAfter_eq (t : AlignTable) (start : Byte) (newly : Bool) (k : SnapKind) (own : Nat) :
    t.cursorAfter (decide (start ≠ 0)) newly k own =
      if newly then (if start = 0 then nextOf k t else (numbersOf k t).head?.getD (nextOf k t)) else own := by
  simp only [AlignTable.cursorAfter, AlignTable.startCursor, AlignTable.next_eq, AlignTable.oldest_eq, decide_eq_true_eq,
    ne_eq, ite_not]

/-- SUBSCRIBE at the port with every value in its range (R160). -/
theorem State.subscribe_named (s : State) (p : PortId) {kinds start count : Byte} {indices : List Byte}
    (kindsNamed : kinds.toNat ≤ 3) (startNamed : start.toNat ≤ 1) (few : count.toNat ≤ 48)
    (named : ∀ c ∈ indices.take count.toNat, c.toNat < 48) (distinct : (indices.take count.toNat).Nodup) :
    let take := fun q : Port => q.subscribe s.table (kinds == 1 || kinds == 3, kinds == 2 || kinds == 3)
      (decide (start ≠ 0)) (streamsNamed (indices.take count.toNat))
    s.subscribe p kinds start count indices = (s.updPort p take, (take s.ports[p]).readingReply) := by
  dsimp only
  rw [State.subscribe, decodeSubscription_some kindsNamed, decodeFromOldest_some startNamed, decodeFilter_eq,
    if_pos ⟨few, named, distinct⟩]
  exact congrArg (·, _) (State.updPort_congr rfl)

/-- SUBSCRIBE with a value out of its range (R160, R189). -/
theorem State.subscribe_invalid (s : State) (p : PortId) {kinds start count : Byte} {indices : List Byte}
    (bad : decodeSubscription kinds = none ∨ decodeFromOldest start = none ∨ decodeFilter count indices = none) :
    s.subscribe p kinds start count indices = (s, .bare .invalid) := by
  unfold State.subscribe
  split
  next ks oldest filter hk hs hf => simp [hk, hs, hf] at bad
  next => rfl

/-- SUBSCRIBE with 48 index bytes reaches the port (R188). -/
theorem subscribe_reaches (p : PortId) (kinds start count : Byte) {indices : List Byte} (whole : indices.length = 48)
    (u : State) : orMalformed (indices.length == 48) (fun s => s.subscribe p kinds start count indices) u =
      u.subscribe p kinds start count indices := by
  rw [orMalformed, whole]
  rfl

/-- Settles O40: the port's reading state by the start mode and what was subscribed, or the value out of its range. -/
theorem subscribeSetsReadingState : Obligations.SubscribeSetsReadingState := by
  unfold Obligations.SubscribeSetsReadingState
  intro s p tag kinds start count indices serves whole
  have reaches := subscribe_reaches p kinds start count whole
    (s.updPort p (Port.takeInHand (.subscribe p tag kinds start count indices)))
  refine ⟨fun kindsNamed startNamed few named distinct => ?_, fun bad => ?_⟩
  · have taken := State.subscribe_named (s.updPort p (Port.takeInHand (.subscribe p tag kinds start count indices))) p
      kindsNamed startNamed few named distinct
    simp only [Fin.getElem_fin, State.updPort_ports, update_get_self] at taken
    obtain ⟨t, run, frame, answer⟩ := serveStep_updPort serves _ tag (reaches.trans taken) fun _ => rfl
    exact ⟨t, _, _, _, run, frame, mem_streamsNamed _, streamsNamed_nodup _,
      s.table.cursorAfter_eq start _ .fast _, s.table.cursorAfter_eq start _ .full _, answer⟩
  · refine serveStep_refuses serves _ tag _ .invalid (reaches.trans (State.subscribe_invalid _ p ?_))
    obtain past | past | many | ⟨b, used, past⟩ | twice := bad
    · exact .inl (decodeSubscription_none past)
    · exact .inr (.inl (decodeFromOldest_none past))
    all_goals
      refine .inr (.inr ((decodeFilter_eq count indices).trans (if_neg ?_)))
      rintro ⟨few, named, distinct⟩
    · omega
    · exact absurd (named b used) (by omega)
    · exact twice distinct

end Sys2Proof.Machine
end

section
/-! PROOFS. Reading the conditions, with the attention line before and after (R176, R178 to R180), and a reset that acts (R182,
R191). -/

namespace Sys2Proof.Machine

/-! ### READ CONDITIONS -/

/-- SNAPSHOT_WAITING is live while a subscribed kind has its cursor below the next number (R172, R178). -/
theorem snapshotWaiting_iff (s : State) (p : PortId) : snapshotWaiting s p = true ↔
    (s.ports[p].subFast = true ∧ s.ports[p].fastCursor < s.table.nextFast) ∨
      (s.ports[p].subFull = true ∧ s.ports[p].fullCursor < s.table.nextFull) := by
  simp [snapshotWaiting]

/-- The live kinds are SNAPSHOT_WAITING and ROSTER_CHANGED, each while its condition holds (R178, R179). -/
theorem kindIn_liveKinds (s : State) (p : PortId) (k : Kind) : kindIn k (liveKinds s p) = true ↔
    (k = .snapshotWaiting ∧ snapshotWaiting s p = true) ∨ (k = .rosterChanged ∧ rosterChanged s p = true) := by
  rw [liveKinds, kindIn_or, kindIn_kindIf, kindIn_kindIf]
  simp only [Bool.or_eq_true, Bool.and_eq_true, decide_eq_true_eq, and_comm]

/-- Taking a request in hand touches no condition, so the owner reads what stood before it (R149, R176). -/
theorem State.readConditions_inHand (s : State) (p : PortId) (c : Instr) :
    (s.updPort p (Port.takeInHand c)).readConditions p =
      ((s.updPort p (Port.takeInHand c)).updPort p fun q => { q with latched := 0 },
        .ok (.conditions s.ports[p].latched (liveKinds s p) s.ports[p].mask)) := by
  have port : (s.updPort p (Port.takeInHand c)).ports[p] = Port.takeInHand c s.ports[p] := by simp
  have live : liveKinds (s.updPort p (Port.takeInHand c)) p = liveKinds s p := by
    refine liveKinds_congr rfl rfl ?_ ?_ ?_ ?_ ?_ <;> (rw [port]; rfl)
  rw [State.readConditions, live, port]
  rfl

/-- Settles O38: the port is answered with what stood and keeps no latched kind, and its live kinds stay as they were. -/
theorem readConditionsClearsLatched : Obligations.ReadConditionsClearsLatched := by
  unfold Obligations.ReadConditionsClearsLatched
  intro s p tag serves
  obtain ⟨t, run, frame, answer, others⟩ := serveStep_updPort serves (.readConditions p tag) tag
    (owner := fun u => u.readConditions p) (s.readConditions_inHand p _) fun _ => rfl
  have live : liveKinds t p = liveKinds s p := by
    refine liveKinds_congr (by rw [frame]) (by rw [frame]) ?_ ?_ ?_ ?_ ?_ <;> (rw [answer]; rfl)
  have on : t.operating = true := by
    rw [frame]
    exact serves.1
  have latched : t.ports[p].latched = 0#15 := by
    rw [answer]
    rfl
  have mask : t.ports[p].mask = s.ports[p].mask := by
    rw [answer]
    rfl
  refine ⟨t, liveKinds s p, run, frame, ⟨answer, others⟩, fun k => ?_, attention_iff serves.1 p, ?_⟩
  · rw [kindIn_liveKinds, snapshotWaiting_iff, rosterChanged_iff]
  · rw [attention_iff on, live, latched, mask]
    simp only [kindIn_zero, Bool.false_eq_true, false_or]

/-! ### While a reset acts -/

/-- Every command but the five of the resets works on an operating part alone (R191). -/
theorem exec_eq_whileOperating {c : Instr} (running : Instr.isReset c = false) (notExit : c ≠ .powerOnExit)
    (notRelease : c ≠ .resetLineRelease) : ∃ f : State → State, ∀ s, exec c s = .next (s.whileOperating f) := by
  cases c with
  | powerOn | supplyBelowLimit | resetLine => cases running
  | powerOnExit => exact absurd rfl notExit
  | resetLineRelease => exact absurd rfl notRelease
  | _ => exact ⟨_, fun _ => rfl⟩

/-- No attention line is asserted while a reset acts (R182, R191). -/
theorem attention_off {s : State} (off : s.operating = false) (p : PortId) : attention s p = false := by
  rw [attention, off, Bool.false_and]

/-- Settles O6: a command that runs on an operating part alone leaves any other as it is, and the attention lines need one. -/
theorem nothingTakenInReset : Obligations.NothingTakenInReset := by
  unfold Obligations.NothingTakenInReset
  intro c s off running notExit notRelease
  obtain ⟨f, run⟩ := exec_eq_whileOperating running notExit notRelease
  exact ⟨by rw [run, State.whileOperating_off off], attention_off off⟩

end Sys2Proof.Machine
end

section
/-! PROOFS. Every command completes and leaves the queue of waiting commands alone (log entry 2); power-on, its end and a supply
failure (R191); a request decoded from what its consumer encodes (R188 to R190). -/

namespace Sys2Proof.Machine

/-! ### What the requests leave of the queue -/

section
variable (s : State)

@[simp] theorem State.setMask_pending (p : PortId) (count : Byte) (kinds : List Byte) :
    (s.setMask p count kinds).1.pending = s.pending := by
  unfold State.setMask
  split <;> rfl

@[simp] theorem State.subscribe_pending (p : PortId) (kinds start count : Byte) (indices : List Byte) :
    (s.subscribe p kinds start count indices).1.pending = s.pending := by
  unfold State.subscribe
  split <;> rfl

@[simp] theorem State.readNext_pending (p : PortId) (k : SnapKind) : (s.readNext p k).1.pending = s.pending := by
  unfold State.readNext
  dsimp only
  repeat' split
  all_goals rfl

@[simp] theorem State.readSnapshotNext_pending (p : PortId) (kind : Byte) :
    (s.readSnapshotNext p kind).1.pending = s.pending := by
  unfold State.readSnapshotNext
  split
  · rfl
  · split
    · exact s.readNext_pending p _
    · rfl

@[simp] theorem State.readSnapshotSequence_pending (p : PortId) (kind target : Byte) (n : Nat) :
    (s.readSnapshotSequence p kind target n).1.pending = s.pending := by
  unfold State.readSnapshotSequence
  repeat' split
  all_goals rfl

@[simp] theorem State.readStreamDetail_pending (index : Byte) : (s.readStreamDetail index).1.pending = s.pending := by
  unfold State.readStreamDetail
  split <;> rfl

@[simp] theorem State.profileCursor_pending (p : PortId) (selector : Byte) (address : BitVec 16) (mode : Byte) :
    (s.profileCursor p selector address mode).1.pending = s.pending := by
  unfold State.profileCursor
  split <;> simp

@[simp] theorem State.profileGet_pending (p : PortId) (count : Byte) :
    (s.profileGet p count).1.pending = s.pending := by
  unfold State.profileGet
  dsimp only
  repeat' split
  all_goals simp

@[simp] theorem State.profilePut_pending (p : PortId) (values : List Word) :
    (s.profilePut p values).1.pending = s.pending := by
  unfold State.profilePut
  dsimp only
  repeat' split
  all_goals simp

@[simp] theorem State.beginEdit_pending (p : PortId) : (s.beginEdit p).1.pending = s.pending := by
  unfold State.beginEdit
  repeat' split
  all_goals simp

@[simp] theorem State.abandonEdit_pending (p : PortId) : (s.abandonEdit p).1.pending = s.pending := by
  unfold State.abandonEdit
  split <;> simp

@[simp] theorem State.refuseCommit_pending (p : PortId) (r : Reply) : (s.refuseCommit p r).1.pending = s.pending := rfl

@[simp] theorem State.commitNow_pending (p : PortId) : (s.commitNow p).1.pending = s.pending := by
  unfold State.commitNow
  repeat' split
  all_goals simp

@[simp] theorem State.commitAtSecond_pending (p : PortId) (mode : Byte) (second : Nat) :
    (s.commitAtSecond p mode second).1.pending = s.pending := by
  unfold State.commitAtSecond
  repeat' split
  all_goals simp

@[simp] theorem State.cancelSwitch_pending : s.cancelSwitch.1.pending = s.pending := by
  unfold State.cancelSwitch
  split <;> rfl

@[simp] theorem State.streamCommand_pending (p : PortId) (index action : Byte) :
    (s.streamCommand p index action).1.pending = s.pending := by
  unfold State.streamCommand
  repeat' split
  all_goals simp

@[simp] theorem State.releaseStream_pending (index : Byte) : (s.releaseStream index).1.pending = s.pending := by
  unfold State.releaseStream
  repeat' split
  all_goals simp

@[simp] theorem State.acceptReference_pending : s.acceptReference.1.pending = s.pending := by
  unfold State.acceptReference
  split <;> rfl

@[simp] theorem State.clearAlignment_pending : s.clearAlignment.1.pending = s.pending := by
  simp [State.clearAlignment]

@[simp] theorem State.portReset_pending (p : PortId) : (s.portReset p).1.pending = s.pending := by
  unfold State.portReset
  dsimp only
  split <;> simp

end

/-! ### Every command completes -/

/-- The command completes in `s`, and the queue stands as it stood. -/
def Completes (c : Instr) (s : State) : Prop :=
  ∃ t, exec c s = .next t ∧ t.pending = s.pending

/-- A command on an operating part completes when its effect leaves the queue (R191). -/
theorem Completes.of_whileOperating {c : Instr} {s : State} {f : State → State}
    (run : exec c s = .next (s.whileOperating f)) (kept : (f s).pending = s.pending) : Completes c s :=
  ⟨_, run, State.whileOperating_preserves (P := fun u => u.pending = s.pending) rfl kept⟩

/-- A request completes when its owner leaves the queue, whatever the handler of its port does (R149, R150). -/
theorem Completes.of_serveStep {c : Instr} {s : State} {p : PortId} {tag : Byte} {owner : State → State × Reply}
    (run : exec c s = serveStep c p tag owner s) (kept : ∀ u, (owner u).1.pending = u.pending) : Completes c s :=
  .of_whileOperating run <| State.serve_preserves (P := fun u => u.pending = s.pending)
    (fun u f _ hu => (u.updPort_pending p f).trans hu) (fun u hu => (kept u).trans hu) rfl c tag

/-- Every command completes: a reset writes the queue back, and an effect or an owner's answer leaves it (R149, R191). -/
theorem exec_completes (c : Instr) (s : State) : Completes c s := by
  have malformed {fits : Bool} {owner : State → State × Reply} (kept : ∀ u, (owner u).1.pending = u.pending) (u : State) :
      (orMalformed fits owner u).1.pending = u.pending :=
    orMalformed_preserves (P := fun v => v.pending = u.pending) rfl (kept u)
  cases c with
  | powerOn | resetLine | supplyBelowLimit => exact ⟨_, rfl, rfl⟩
  | resetLineRelease | powerOnExit =>
    refine ⟨_, rfl, ?_⟩
    split <;> rfl
  | timeMessage | ppsEdge | ppsLossTimerExpiry | holdoverLimitExpiry | slewEnd | pauseEnd | secondBoundary
  | fastDeadlineExpiry | fullDeadlineExpiry | drainingEnd | laneFrameArrival | laneSilenceTimerExpiry | commandFrameSent
  | arbiterTake | tableTakeRecord | claimTimerExpiry | requestFrameArrival | responseSent =>
    exact .of_whileOperating rfl (by simp)
  | epochBoundary | streamSilenceTimerExpiry | quietTimerExpiry =>
    refine .of_whileOperating rfl ?_
    split <;> simp
  | commandTimeout =>
    refine .of_whileOperating rfl ?_
    repeat' split
    all_goals simp
  | status | readConditions | readRosterState | readWorstLatency | readLanes => exact .of_serveStep rfl fun _ => rfl
  | setMask | subscribe | profilePut => exact .of_serveStep rfl (malformed fun _ => by simp)
  | _ => exact .of_serveStep rfl fun _ => by simp

/-- Settles O2: command by command, in a reset or out of it. -/
theorem everyCommandCompletes : Obligations.EveryCommandCompletes := by
  unfold Obligations.EveryCommandCompletes
  exact exec_completes

/-! ### Power-on and the supplies -/

/-- The end of power-on lets the part operate while its supplies rise, and is not due otherwise (R191, log entry 1). -/
theorem exec_powerOnExit (s : State) :
    (s.supplies = .rising → exec .powerOnExit s = .next { s with supplies := .good }) ∧
    (s.supplies ≠ .rising → exec .powerOnExit s = .next s) :=
  ⟨fun rising => congrArg _ (if_pos rising), fun other => congrArg _ (if_neg other)⟩

/-- Settles O4: power-on and a supply failure write the power-on values, and power-on ends while the supplies rise. -/
theorem powerOnActs : Obligations.PowerOnActs := by
  unfold Obligations.PowerOnActs
  exact fun s => ⟨rfl, rfl, exec_powerOnExit s⟩

/-! ### Requests on the link -/

/-- Settles O33: the payload has a length that its code calls for, and each of its fields is read back as it was written. -/
theorem requestDecodesAsEncoded : Obligations.RequestDecodesAsEncoded := by
  unfold Obligations.RequestDecodesAsEncoded
  intro c p tag code payload wellFormed sent
  exact decodeRequest_encoded wellFormed sent

end Sys2Proof.Machine
end
